-- ==== Sys2Proof/Word.lean ====
section
/-! DEFINITION. The two word sizes of the core (spec 00_scope.md R14, R15): a byte is 8 bits, a word 16 bits. -/

namespace Sys2Proof

/-- An 8-bit value: a general register, a memory byte, an opcode byte. -/
abbrev Byte := BitVec 8

/-- A 16-bit value: SP, PC, a register pair, a bus address. -/
abbrev Word := BitVec 16

end Sys2Proof
end

