-- ==== Sys2Proof/Machine/Bits.lean ====
section
/-! DEFINITION. The bit-field, sign-extension and byte-order helpers of 00_scope.md R15. -/

namespace Sys2Proof.Machine

/-- `a ++ b` of R15: a in bits 15-8, b in bits 7-0. -/
def cat (hi lo : Byte) : Word := hi ++ lo

/-- v[15:8]. -/
def hiByte (v : Word) : Byte := v.extractLsb' 8 8

/-- v[7:0]. -/
def loByte (v : Word) : Byte := v.extractLsb' 0 8

/-- `sext_16` of R15: the byte as two's complement, modulo 65536. -/
def sext16 (e : Byte) : Word := e.signExtend 16

/-- The address 0xFF00 + b (R109, R117). -/
def highPage (b : Byte) : Word := cat 0xFF b

end Sys2Proof.Machine
end

