-- ==== Sys2Proof/Syntax.lean ====
section
/-! DEFINITION. The instructions: one constructor per row of opcode_table.json, in the table's order but the
rows with an operand first (Lean's compiler asks for that), then the operand codes of 30_encoding.md and, for each rule that covers several rows, the row of each operand choice. -/

namespace Sys2Proof

/-- The 512 rows of the opcode table. A constructor is named after its row's mnemonic: `mHL` is the byte at HL,
`mHLi` and `mHLd` the byte at HL with HL stepped up or down after, `mBC`, `mDE`, `mC`, `ma8`, `ma16` the byte at that
address. An operand byte or word of the encoding is an argument (R100, R109); `stop` keeps its ignored second byte, and
`prefix_CB` is the base entry 0xCB with the extended opcode byte it escapes to (R101, R305). -/
inductive Instr where
  | ld_BC_n16 (n : Word)
  | ld_B_n8 (n : Byte)
  | ld_ma16_SP (a : Word)
  | ld_C_n8 (n : Byte)
  | stop (n : Byte)
  | ld_DE_n16 (n : Word)
  | ld_D_n8 (n : Byte)
  | jr_e8 (e : Byte)
  | ld_E_n8 (n : Byte)
  | jr_NZ_e8 (e : Byte)
  | ld_HL_n16 (n : Word)
  | ld_H_n8 (n : Byte)
  | jr_Z_e8 (e : Byte)
  | ld_L_n8 (n : Byte)
  | jr_NC_e8 (e : Byte)
  | ld_SP_n16 (n : Word)
  | ld_mHL_n8 (n : Byte)
  | jr_C_e8 (e : Byte)
  | ld_A_n8 (n : Byte)
  | jp_NZ_a16 (a : Word)
  | jp_a16 (a : Word)
  | call_NZ_a16 (a : Word)
  | add_A_n8 (n : Byte)
  | jp_Z_a16 (a : Word)
  | prefix_CB (op2 : Byte)
  | call_Z_a16 (a : Word)
  | call_a16 (a : Word)
  | adc_A_n8 (n : Byte)
  | jp_NC_a16 (a : Word)
  | call_NC_a16 (a : Word)
  | sub_n8 (n : Byte)
  | jp_C_a16 (a : Word)
  | call_C_a16 (a : Word)
  | sbc_A_n8 (n : Byte)
  | ldh_ma8_A (a : Byte)
  | and_n8 (n : Byte)
  | add_SP_e8 (e : Byte)
  | ld_ma16_A (a : Word)
  | xor_n8 (n : Byte)
  | ldh_A_ma8 (a : Byte)
  | or_n8 (n : Byte)
  | ld_HL_SPe8 (e : Byte)
  | ld_A_ma16 (a : Word)
  | cp_n8 (n : Byte)
  | nop
  | ld_mBC_A
  | inc_BC
  | inc_B
  | dec_B
  | rlca
  | add_HL_BC
  | ld_A_mBC
  | dec_BC
  | inc_C
  | dec_C
  | rrca
  | ld_mDE_A
  | inc_DE
  | inc_D
  | dec_D
  | rla
  | add_HL_DE
  | ld_A_mDE
  | dec_DE
  | inc_E
  | dec_E
  | rra
  | ld_mHLi_A
  | inc_HL
  | inc_H
  | dec_H
  | daa
  | add_HL_HL
  | ld_A_mHLi
  | dec_HL
  | inc_L
  | dec_L
  | cpl
  | ld_mHLd_A
  | inc_SP
  | inc_mHL
  | dec_mHL
  | scf
  | add_HL_SP
  | ld_A_mHLd
  | dec_SP
  | inc_A
  | dec_A
  | ccf
  | ld_B_B
  | ld_B_C
  | ld_B_D
  | ld_B_E
  | ld_B_H
  | ld_B_L
  | ld_B_mHL
  | ld_B_A
  | ld_C_B
  | ld_C_C
  | ld_C_D
  | ld_C_E
  | ld_C_H
  | ld_C_L
  | ld_C_mHL
  | ld_C_A
  | ld_D_B
  | ld_D_C
  | ld_D_D
  | ld_D_E
  | ld_D_H
  | ld_D_L
  | ld_D_mHL
  | ld_D_A
  | ld_E_B
  | ld_E_C
  | ld_E_D
  | ld_E_E
  | ld_E_H
  | ld_E_L
  | ld_E_mHL
  | ld_E_A
  | ld_H_B
  | ld_H_C
  | ld_H_D
  | ld_H_E
  | ld_H_H
  | ld_H_L
  | ld_H_mHL
  | ld_H_A
  | ld_L_B
  | ld_L_C
  | ld_L_D
  | ld_L_E
  | ld_L_H
  | ld_L_L
  | ld_L_mHL
  | ld_L_A
  | ld_mHL_B
  | ld_mHL_C
  | ld_mHL_D
  | ld_mHL_E
  | ld_mHL_H
  | ld_mHL_L
  | halt
  | ld_mHL_A
  | ld_A_B
  | ld_A_C
  | ld_A_D
  | ld_A_E
  | ld_A_H
  | ld_A_L
  | ld_A_mHL
  | ld_A_A
  | add_A_B
  | add_A_C
  | add_A_D
  | add_A_E
  | add_A_H
  | add_A_L
  | add_A_mHL
  | add_A_A
  | adc_A_B
  | adc_A_C
  | adc_A_D
  | adc_A_E
  | adc_A_H
  | adc_A_L
  | adc_A_mHL
  | adc_A_A
  | sub_B
  | sub_C
  | sub_D
  | sub_E
  | sub_H
  | sub_L
  | sub_mHL
  | sub_A
  | sbc_A_B
  | sbc_A_C
  | sbc_A_D
  | sbc_A_E
  | sbc_A_H
  | sbc_A_L
  | sbc_A_mHL
  | sbc_A_A
  | and_B
  | and_C
  | and_D
  | and_E
  | and_H
  | and_L
  | and_mHL
  | and_A
  | xor_B
  | xor_C
  | xor_D
  | xor_E
  | xor_H
  | xor_L
  | xor_mHL
  | xor_A
  | or_B
  | or_C
  | or_D
  | or_E
  | or_H
  | or_L
  | or_mHL
  | or_A
  | cp_B
  | cp_C
  | cp_D
  | cp_E
  | cp_H
  | cp_L
  | cp_mHL
  | cp_A
  | ret_NZ
  | pop_BC
  | push_BC
  | rst_00H
  | ret_Z
  | ret
  | rst_08H
  | ret_NC
  | pop_DE
  | undefined_D3
  | push_DE
  | rst_10H
  | ret_C
  | reti
  | undefined_DB
  | undefined_DD
  | rst_18H
  | pop_HL
  | ld_mC_A
  | undefined_E3
  | undefined_E4
  | push_HL
  | rst_20H
  | jp_HL
  | undefined_EB
  | undefined_EC
  | undefined_ED
  | rst_28H
  | pop_AF
  | ld_A_mC
  | di
  | undefined_F4
  | push_AF
  | rst_30H
  | ld_SP_HL
  | ei
  | undefined_FC
  | undefined_FD
  | rst_38H
  | rlc_B
  | rlc_C
  | rlc_D
  | rlc_E
  | rlc_H
  | rlc_L
  | rlc_mHL
  | rlc_A
  | rrc_B
  | rrc_C
  | rrc_D
  | rrc_E
  | rrc_H
  | rrc_L
  | rrc_mHL
  | rrc_A
  | rl_B
  | rl_C
  | rl_D
  | rl_E
  | rl_H
  | rl_L
  | rl_mHL
  | rl_A
  | rr_B
  | rr_C
  | rr_D
  | rr_E
  | rr_H
  | rr_L
  | rr_mHL
  | rr_A
  | sla_B
  | sla_C
  | sla_D
  | sla_E
  | sla_H
  | sla_L
  | sla_mHL
  | sla_A
  | sra_B
  | sra_C
  | sra_D
  | sra_E
  | sra_H
  | sra_L
  | sra_mHL
  | sra_A
  | swap_B
  | swap_C
  | swap_D
  | swap_E
  | swap_H
  | swap_L
  | swap_mHL
  | swap_A
  | srl_B
  | srl_C
  | srl_D
  | srl_E
  | srl_H
  | srl_L
  | srl_mHL
  | srl_A
  | bit_0_B
  | bit_0_C
  | bit_0_D
  | bit_0_E
  | bit_0_H
  | bit_0_L
  | bit_0_mHL
  | bit_0_A
  | bit_1_B
  | bit_1_C
  | bit_1_D
  | bit_1_E
  | bit_1_H
  | bit_1_L
  | bit_1_mHL
  | bit_1_A
  | bit_2_B
  | bit_2_C
  | bit_2_D
  | bit_2_E
  | bit_2_H
  | bit_2_L
  | bit_2_mHL
  | bit_2_A
  | bit_3_B
  | bit_3_C
  | bit_3_D
  | bit_3_E
  | bit_3_H
  | bit_3_L
  | bit_3_mHL
  | bit_3_A
  | bit_4_B
  | bit_4_C
  | bit_4_D
  | bit_4_E
  | bit_4_H
  | bit_4_L
  | bit_4_mHL
  | bit_4_A
  | bit_5_B
  | bit_5_C
  | bit_5_D
  | bit_5_E
  | bit_5_H
  | bit_5_L
  | bit_5_mHL
  | bit_5_A
  | bit_6_B
  | bit_6_C
  | bit_6_D
  | bit_6_E
  | bit_6_H
  | bit_6_L
  | bit_6_mHL
  | bit_6_A
  | bit_7_B
  | bit_7_C
  | bit_7_D
  | bit_7_E
  | bit_7_H
  | bit_7_L
  | bit_7_mHL
  | bit_7_A
  | res_0_B
  | res_0_C
  | res_0_D
  | res_0_E
  | res_0_H
  | res_0_L
  | res_0_mHL
  | res_0_A
  | res_1_B
  | res_1_C
  | res_1_D
  | res_1_E
  | res_1_H
  | res_1_L
  | res_1_mHL
  | res_1_A
  | res_2_B
  | res_2_C
  | res_2_D
  | res_2_E
  | res_2_H
  | res_2_L
  | res_2_mHL
  | res_2_A
  | res_3_B
  | res_3_C
  | res_3_D
  | res_3_E
  | res_3_H
  | res_3_L
  | res_3_mHL
  | res_3_A
  | res_4_B
  | res_4_C
  | res_4_D
  | res_4_E
  | res_4_H
  | res_4_L
  | res_4_mHL
  | res_4_A
  | res_5_B
  | res_5_C
  | res_5_D
  | res_5_E
  | res_5_H
  | res_5_L
  | res_5_mHL
  | res_5_A
  | res_6_B
  | res_6_C
  | res_6_D
  | res_6_E
  | res_6_H
  | res_6_L
  | res_6_mHL
  | res_6_A
  | res_7_B
  | res_7_C
  | res_7_D
  | res_7_E
  | res_7_H
  | res_7_L
  | res_7_mHL
  | res_7_A
  | set_0_B
  | set_0_C
  | set_0_D
  | set_0_E
  | set_0_H
  | set_0_L
  | set_0_mHL
  | set_0_A
  | set_1_B
  | set_1_C
  | set_1_D
  | set_1_E
  | set_1_H
  | set_1_L
  | set_1_mHL
  | set_1_A
  | set_2_B
  | set_2_C
  | set_2_D
  | set_2_E
  | set_2_H
  | set_2_L
  | set_2_mHL
  | set_2_A
  | set_3_B
  | set_3_C
  | set_3_D
  | set_3_E
  | set_3_H
  | set_3_L
  | set_3_mHL
  | set_3_A
  | set_4_B
  | set_4_C
  | set_4_D
  | set_4_E
  | set_4_H
  | set_4_L
  | set_4_mHL
  | set_4_A
  | set_5_B
  | set_5_C
  | set_5_D
  | set_5_E
  | set_5_H
  | set_5_L
  | set_5_mHL
  | set_5_A
  | set_6_B
  | set_6_C
  | set_6_D
  | set_6_E
  | set_6_H
  | set_6_L
  | set_6_mHL
  | set_6_A
  | set_7_B
  | set_7_C
  | set_7_D
  | set_7_E
  | set_7_H
  | set_7_L
  | set_7_mHL
  | set_7_A
  deriving DecidableEq, Repr

/-- The 8-bit registers with a register code (R103). -/
inductive Reg8 where
  | B
  | C
  | D
  | E
  | H
  | L
  | A
  deriving DecidableEq, Repr

/-- The pair codes `rr` (R104). -/
inductive Pair where
  | BC
  | DE
  | HL
  | SP
  deriving DecidableEq, Repr

/-- The pair codes `rr2` (R104). -/
inductive StackPair where
  | BC
  | DE
  | HL
  | AF
  deriving DecidableEq, Repr

/-- The condition codes (R105). -/
inductive Cond where
  | NZ
  | Z
  | NC
  | C
  deriving DecidableEq, Repr

/-- The ALU operation codes (R106). -/
inductive AluOp where
  | add
  | adc
  | sub
  | sbc
  | and
  | xor
  | or
  | cp
  deriving DecidableEq, Repr

/-- The rotate and shift codes of the extended table (R107). -/
inductive ShiftOp where
  | rlc
  | rrc
  | rl
  | rr
  | sla
  | sra
  | swap
  | srl
  deriving DecidableEq, Repr

/-- A value of field y: a bit number b (R107), or y of a restart target t = 8 y (R108). -/
inductive BitNo where
  | b0
  | b1
  | b2
  | b3
  | b4
  | b5
  | b6
  | b7
  deriving DecidableEq, Repr

/-- R103. -/
def Reg8.code : Reg8 → BitVec 3
  | .B => 0
  | .C => 1
  | .D => 2
  | .E => 3
  | .H => 4
  | .L => 5
  | .A => 7

/-- R104. -/
def Pair.code : Pair → BitVec 2
  | .BC => 0
  | .DE => 1
  | .HL => 2
  | .SP => 3

/-- R104. -/
def StackPair.code : StackPair → BitVec 2
  | .BC => 0
  | .DE => 1
  | .HL => 2
  | .AF => 3

/-- R105. -/
def Cond.code : Cond → BitVec 2
  | .NZ => 0
  | .Z => 1
  | .NC => 2
  | .C => 3

/-- R106. -/
def AluOp.code : AluOp → BitVec 3
  | .add => 0
  | .adc => 1
  | .sub => 2
  | .sbc => 3
  | .and => 4
  | .xor => 5
  | .or => 6
  | .cp => 7

/-- R107. -/
def ShiftOp.code : ShiftOp → BitVec 3
  | .rlc => 0
  | .rrc => 1
  | .rl => 2
  | .rr => 3
  | .sla => 4
  | .sra => 5
  | .swap => 6
  | .srl => 7

/-- R107, R108. -/
def BitNo.code : BitNo → BitVec 3
  | .b0 => 0
  | .b1 => 1
  | .b2 => 2
  | .b3 => 3
  | .b4 => 4
  | .b5 => 5
  | .b6 => 6
  | .b7 => 7

/-- The operand `reg8(z)` of R103: a register, or the byte at HL (code 110). -/
inductive Opnd8 where
  | reg (r : Reg8)
  | mHL
  deriving DecidableEq, Repr

/-- `LD r,r'` (R140). -/
def Instr.ldRR : Reg8 → Reg8 → Instr
  | .B, .B => .ld_B_B
  | .B, .C => .ld_B_C
  | .B, .D => .ld_B_D
  | .B, .E => .ld_B_E
  | .B, .H => .ld_B_H
  | .B, .L => .ld_B_L
  | .B, .A => .ld_B_A
  | .C, .B => .ld_C_B
  | .C, .C => .ld_C_C
  | .C, .D => .ld_C_D
  | .C, .E => .ld_C_E
  | .C, .H => .ld_C_H
  | .C, .L => .ld_C_L
  | .C, .A => .ld_C_A
  | .D, .B => .ld_D_B
  | .D, .C => .ld_D_C
  | .D, .D => .ld_D_D
  | .D, .E => .ld_D_E
  | .D, .H => .ld_D_H
  | .D, .L => .ld_D_L
  | .D, .A => .ld_D_A
  | .E, .B => .ld_E_B
  | .E, .C => .ld_E_C
  | .E, .D => .ld_E_D
  | .E, .E => .ld_E_E
  | .E, .H => .ld_E_H
  | .E, .L => .ld_E_L
  | .E, .A => .ld_E_A
  | .H, .B => .ld_H_B
  | .H, .C => .ld_H_C
  | .H, .D => .ld_H_D
  | .H, .E => .ld_H_E
  | .H, .H => .ld_H_H
  | .H, .L => .ld_H_L
  | .H, .A => .ld_H_A
  | .L, .B => .ld_L_B
  | .L, .C => .ld_L_C
  | .L, .D => .ld_L_D
  | .L, .E => .ld_L_E
  | .L, .H => .ld_L_H
  | .L, .L => .ld_L_L
  | .L, .A => .ld_L_A
  | .A, .B => .ld_A_B
  | .A, .C => .ld_A_C
  | .A, .D => .ld_A_D
  | .A, .E => .ld_A_E
  | .A, .H => .ld_A_H
  | .A, .L => .ld_A_L
  | .A, .A => .ld_A_A

/-- `LD r,n8` (R141). -/
def Instr.ldRN : Reg8 → Byte → Instr
  | .B, v => .ld_B_n8 v
  | .C, v => .ld_C_n8 v
  | .D, v => .ld_D_n8 v
  | .E, v => .ld_E_n8 v
  | .H, v => .ld_H_n8 v
  | .L, v => .ld_L_n8 v
  | .A, v => .ld_A_n8 v

/-- `LD r,(HL)` (R142). -/
def Instr.ldRM : Reg8 → Instr
  | .B => .ld_B_mHL
  | .C => .ld_C_mHL
  | .D => .ld_D_mHL
  | .E => .ld_E_mHL
  | .H => .ld_H_mHL
  | .L => .ld_L_mHL
  | .A => .ld_A_mHL

/-- `LD (HL),r` (R143). -/
def Instr.ldMR : Reg8 → Instr
  | .B => .ld_mHL_B
  | .C => .ld_mHL_C
  | .D => .ld_mHL_D
  | .E => .ld_mHL_E
  | .H => .ld_mHL_H
  | .L => .ld_mHL_L
  | .A => .ld_mHL_A

/-- `LD rr,n16` (R160). -/
def Instr.ldPN : Pair → Word → Instr
  | .BC, v => .ld_BC_n16 v
  | .DE, v => .ld_DE_n16 v
  | .HL, v => .ld_HL_n16 v
  | .SP, v => .ld_SP_n16 v

/-- `PUSH rr2` (R163). -/
def Instr.push : StackPair → Instr
  | .BC => .push_BC
  | .DE => .push_DE
  | .HL => .push_HL
  | .AF => .push_AF

/-- `POP rr2` (R164, R165). -/
def Instr.pop : StackPair → Instr
  | .BC => .pop_BC
  | .DE => .pop_DE
  | .HL => .pop_HL
  | .AF => .pop_AF

/-- The ALU operations on a register (R177, R180, R183, R186, R189, R192, R195, R198). -/
def Instr.aluR : AluOp → Reg8 → Instr
  | .add, .B => .add_A_B
  | .add, .C => .add_A_C
  | .add, .D => .add_A_D
  | .add, .E => .add_A_E
  | .add, .H => .add_A_H
  | .add, .L => .add_A_L
  | .add, .A => .add_A_A
  | .adc, .B => .adc_A_B
  | .adc, .C => .adc_A_C
  | .adc, .D => .adc_A_D
  | .adc, .E => .adc_A_E
  | .adc, .H => .adc_A_H
  | .adc, .L => .adc_A_L
  | .adc, .A => .adc_A_A
  | .sub, .B => .sub_B
  | .sub, .C => .sub_C
  | .sub, .D => .sub_D
  | .sub, .E => .sub_E
  | .sub, .H => .sub_H
  | .sub, .L => .sub_L
  | .sub, .A => .sub_A
  | .sbc, .B => .sbc_A_B
  | .sbc, .C => .sbc_A_C
  | .sbc, .D => .sbc_A_D
  | .sbc, .E => .sbc_A_E
  | .sbc, .H => .sbc_A_H
  | .sbc, .L => .sbc_A_L
  | .sbc, .A => .sbc_A_A
  | .and, .B => .and_B
  | .and, .C => .and_C
  | .and, .D => .and_D
  | .and, .E => .and_E
  | .and, .H => .and_H
  | .and, .L => .and_L
  | .and, .A => .and_A
  | .xor, .B => .xor_B
  | .xor, .C => .xor_C
  | .xor, .D => .xor_D
  | .xor, .E => .xor_E
  | .xor, .H => .xor_H
  | .xor, .L => .xor_L
  | .xor, .A => .xor_A
  | .or, .B => .or_B
  | .or, .C => .or_C
  | .or, .D => .or_D
  | .or, .E => .or_E
  | .or, .H => .or_H
  | .or, .L => .or_L
  | .or, .A => .or_A
  | .cp, .B => .cp_B
  | .cp, .C => .cp_C
  | .cp, .D => .cp_D
  | .cp, .E => .cp_E
  | .cp, .H => .cp_H
  | .cp, .L => .cp_L
  | .cp, .A => .cp_A

/-- The ALU operations on the byte at HL (R178, R181, R184, R187, R190, R193, R196, R199). -/
def Instr.aluM : AluOp → Instr
  | .add => .add_A_mHL
  | .adc => .adc_A_mHL
  | .sub => .sub_mHL
  | .sbc => .sbc_A_mHL
  | .and => .and_mHL
  | .xor => .xor_mHL
  | .or => .or_mHL
  | .cp => .cp_mHL

/-- The ALU operations on an immediate (R179, R182, R185, R188, R191, R194, R197, R200). -/
def Instr.aluN : AluOp → Byte → Instr
  | .add, v => .add_A_n8 v
  | .adc, v => .adc_A_n8 v
  | .sub, v => .sub_n8 v
  | .sbc, v => .sbc_A_n8 v
  | .and, v => .and_n8 v
  | .xor, v => .xor_n8 v
  | .or, v => .or_n8 v
  | .cp, v => .cp_n8 v

/-- `INC r` (R201). -/
def Instr.incR : Reg8 → Instr
  | .B => .inc_B
  | .C => .inc_C
  | .D => .inc_D
  | .E => .inc_E
  | .H => .inc_H
  | .L => .inc_L
  | .A => .inc_A

/-- `DEC r` (R203). -/
def Instr.decR : Reg8 → Instr
  | .B => .dec_B
  | .C => .dec_C
  | .D => .dec_D
  | .E => .dec_E
  | .H => .dec_H
  | .L => .dec_L
  | .A => .dec_A

/-- `ADD HL,rr` (R222). -/
def Instr.addHL : Pair → Instr
  | .BC => .add_HL_BC
  | .DE => .add_HL_DE
  | .HL => .add_HL_HL
  | .SP => .add_HL_SP

/-- `INC rr` (R223). -/
def Instr.incP : Pair → Instr
  | .BC => .inc_BC
  | .DE => .inc_DE
  | .HL => .inc_HL
  | .SP => .inc_SP

/-- `DEC rr` (R224). -/
def Instr.decP : Pair → Instr
  | .BC => .dec_BC
  | .DE => .dec_DE
  | .HL => .dec_HL
  | .SP => .dec_SP

/-- Rotates, shifts and SWAP of a register (R250 to R264, even). -/
def Instr.shiftR : ShiftOp → Reg8 → Instr
  | .rlc, .B => .rlc_B
  | .rlc, .C => .rlc_C
  | .rlc, .D => .rlc_D
  | .rlc, .E => .rlc_E
  | .rlc, .H => .rlc_H
  | .rlc, .L => .rlc_L
  | .rlc, .A => .rlc_A
  | .rrc, .B => .rrc_B
  | .rrc, .C => .rrc_C
  | .rrc, .D => .rrc_D
  | .rrc, .E => .rrc_E
  | .rrc, .H => .rrc_H
  | .rrc, .L => .rrc_L
  | .rrc, .A => .rrc_A
  | .rl, .B => .rl_B
  | .rl, .C => .rl_C
  | .rl, .D => .rl_D
  | .rl, .E => .rl_E
  | .rl, .H => .rl_H
  | .rl, .L => .rl_L
  | .rl, .A => .rl_A
  | .rr, .B => .rr_B
  | .rr, .C => .rr_C
  | .rr, .D => .rr_D
  | .rr, .E => .rr_E
  | .rr, .H => .rr_H
  | .rr, .L => .rr_L
  | .rr, .A => .rr_A
  | .sla, .B => .sla_B
  | .sla, .C => .sla_C
  | .sla, .D => .sla_D
  | .sla, .E => .sla_E
  | .sla, .H => .sla_H
  | .sla, .L => .sla_L
  | .sla, .A => .sla_A
  | .sra, .B => .sra_B
  | .sra, .C => .sra_C
  | .sra, .D => .sra_D
  | .sra, .E => .sra_E
  | .sra, .H => .sra_H
  | .sra, .L => .sra_L
  | .sra, .A => .sra_A
  | .swap, .B => .swap_B
  | .swap, .C => .swap_C
  | .swap, .D => .swap_D
  | .swap, .E => .swap_E
  | .swap, .H => .swap_H
  | .swap, .L => .swap_L
  | .swap, .A => .swap_A
  | .srl, .B => .srl_B
  | .srl, .C => .srl_C
  | .srl, .D => .srl_D
  | .srl, .E => .srl_E
  | .srl, .H => .srl_H
  | .srl, .L => .srl_L
  | .srl, .A => .srl_A

/-- Rotates, shifts and SWAP of the byte at HL (R251 to R265, odd). -/
def Instr.shiftM : ShiftOp → Instr
  | .rlc => .rlc_mHL
  | .rrc => .rrc_mHL
  | .rl => .rl_mHL
  | .rr => .rr_mHL
  | .sla => .sla_mHL
  | .sra => .sra_mHL
  | .swap => .swap_mHL
  | .srl => .srl_mHL

/-- `BIT b,r` (R266). -/
def Instr.bitR : BitNo → Reg8 → Instr
  | .b0, .B => .bit_0_B
  | .b0, .C => .bit_0_C
  | .b0, .D => .bit_0_D
  | .b0, .E => .bit_0_E
  | .b0, .H => .bit_0_H
  | .b0, .L => .bit_0_L
  | .b0, .A => .bit_0_A
  | .b1, .B => .bit_1_B
  | .b1, .C => .bit_1_C
  | .b1, .D => .bit_1_D
  | .b1, .E => .bit_1_E
  | .b1, .H => .bit_1_H
  | .b1, .L => .bit_1_L
  | .b1, .A => .bit_1_A
  | .b2, .B => .bit_2_B
  | .b2, .C => .bit_2_C
  | .b2, .D => .bit_2_D
  | .b2, .E => .bit_2_E
  | .b2, .H => .bit_2_H
  | .b2, .L => .bit_2_L
  | .b2, .A => .bit_2_A
  | .b3, .B => .bit_3_B
  | .b3, .C => .bit_3_C
  | .b3, .D => .bit_3_D
  | .b3, .E => .bit_3_E
  | .b3, .H => .bit_3_H
  | .b3, .L => .bit_3_L
  | .b3, .A => .bit_3_A
  | .b4, .B => .bit_4_B
  | .b4, .C => .bit_4_C
  | .b4, .D => .bit_4_D
  | .b4, .E => .bit_4_E
  | .b4, .H => .bit_4_H
  | .b4, .L => .bit_4_L
  | .b4, .A => .bit_4_A
  | .b5, .B => .bit_5_B
  | .b5, .C => .bit_5_C
  | .b5, .D => .bit_5_D
  | .b5, .E => .bit_5_E
  | .b5, .H => .bit_5_H
  | .b5, .L => .bit_5_L
  | .b5, .A => .bit_5_A
  | .b6, .B => .bit_6_B
  | .b6, .C => .bit_6_C
  | .b6, .D => .bit_6_D
  | .b6, .E => .bit_6_E
  | .b6, .H => .bit_6_H
  | .b6, .L => .bit_6_L
  | .b6, .A => .bit_6_A
  | .b7, .B => .bit_7_B
  | .b7, .C => .bit_7_C
  | .b7, .D => .bit_7_D
  | .b7, .E => .bit_7_E
  | .b7, .H => .bit_7_H
  | .b7, .L => .bit_7_L
  | .b7, .A => .bit_7_A

/-- `BIT b,(HL)` (R267). -/
def Instr.bitM : BitNo → Instr
  | .b0 => .bit_0_mHL
  | .b1 => .bit_1_mHL
  | .b2 => .bit_2_mHL
  | .b3 => .bit_3_mHL
  | .b4 => .bit_4_mHL
  | .b5 => .bit_5_mHL
  | .b6 => .bit_6_mHL
  | .b7 => .bit_7_mHL

/-- `RES b,r` (R268). -/
def Instr.resR : BitNo → Reg8 → Instr
  | .b0, .B => .res_0_B
  | .b0, .C => .res_0_C
  | .b0, .D => .res_0_D
  | .b0, .E => .res_0_E
  | .b0, .H => .res_0_H
  | .b0, .L => .res_0_L
  | .b0, .A => .res_0_A
  | .b1, .B => .res_1_B
  | .b1, .C => .res_1_C
  | .b1, .D => .res_1_D
  | .b1, .E => .res_1_E
  | .b1, .H => .res_1_H
  | .b1, .L => .res_1_L
  | .b1, .A => .res_1_A
  | .b2, .B => .res_2_B
  | .b2, .C => .res_2_C
  | .b2, .D => .res_2_D
  | .b2, .E => .res_2_E
  | .b2, .H => .res_2_H
  | .b2, .L => .res_2_L
  | .b2, .A => .res_2_A
  | .b3, .B => .res_3_B
  | .b3, .C => .res_3_C
  | .b3, .D => .res_3_D
  | .b3, .E => .res_3_E
  | .b3, .H => .res_3_H
  | .b3, .L => .res_3_L
  | .b3, .A => .res_3_A
  | .b4, .B => .res_4_B
  | .b4, .C => .res_4_C
  | .b4, .D => .res_4_D
  | .b4, .E => .res_4_E
  | .b4, .H => .res_4_H
  | .b4, .L => .res_4_L
  | .b4, .A => .res_4_A
  | .b5, .B => .res_5_B
  | .b5, .C => .res_5_C
  | .b5, .D => .res_5_D
  | .b5, .E => .res_5_E
  | .b5, .H => .res_5_H
  | .b5, .L => .res_5_L
  | .b5, .A => .res_5_A
  | .b6, .B => .res_6_B
  | .b6, .C => .res_6_C
  | .b6, .D => .res_6_D
  | .b6, .E => .res_6_E
  | .b6, .H => .res_6_H
  | .b6, .L => .res_6_L
  | .b6, .A => .res_6_A
  | .b7, .B => .res_7_B
  | .b7, .C => .res_7_C
  | .b7, .D => .res_7_D
  | .b7, .E => .res_7_E
  | .b7, .H => .res_7_H
  | .b7, .L => .res_7_L
  | .b7, .A => .res_7_A

/-- `RES b,(HL)` (R269). -/
def Instr.resM : BitNo → Instr
  | .b0 => .res_0_mHL
  | .b1 => .res_1_mHL
  | .b2 => .res_2_mHL
  | .b3 => .res_3_mHL
  | .b4 => .res_4_mHL
  | .b5 => .res_5_mHL
  | .b6 => .res_6_mHL
  | .b7 => .res_7_mHL

/-- `SET b,r` (R270). -/
def Instr.setR : BitNo → Reg8 → Instr
  | .b0, .B => .set_0_B
  | .b0, .C => .set_0_C
  | .b0, .D => .set_0_D
  | .b0, .E => .set_0_E
  | .b0, .H => .set_0_H
  | .b0, .L => .set_0_L
  | .b0, .A => .set_0_A
  | .b1, .B => .set_1_B
  | .b1, .C => .set_1_C
  | .b1, .D => .set_1_D
  | .b1, .E => .set_1_E
  | .b1, .H => .set_1_H
  | .b1, .L => .set_1_L
  | .b1, .A => .set_1_A
  | .b2, .B => .set_2_B
  | .b2, .C => .set_2_C
  | .b2, .D => .set_2_D
  | .b2, .E => .set_2_E
  | .b2, .H => .set_2_H
  | .b2, .L => .set_2_L
  | .b2, .A => .set_2_A
  | .b3, .B => .set_3_B
  | .b3, .C => .set_3_C
  | .b3, .D => .set_3_D
  | .b3, .E => .set_3_E
  | .b3, .H => .set_3_H
  | .b3, .L => .set_3_L
  | .b3, .A => .set_3_A
  | .b4, .B => .set_4_B
  | .b4, .C => .set_4_C
  | .b4, .D => .set_4_D
  | .b4, .E => .set_4_E
  | .b4, .H => .set_4_H
  | .b4, .L => .set_4_L
  | .b4, .A => .set_4_A
  | .b5, .B => .set_5_B
  | .b5, .C => .set_5_C
  | .b5, .D => .set_5_D
  | .b5, .E => .set_5_E
  | .b5, .H => .set_5_H
  | .b5, .L => .set_5_L
  | .b5, .A => .set_5_A
  | .b6, .B => .set_6_B
  | .b6, .C => .set_6_C
  | .b6, .D => .set_6_D
  | .b6, .E => .set_6_E
  | .b6, .H => .set_6_H
  | .b6, .L => .set_6_L
  | .b6, .A => .set_6_A
  | .b7, .B => .set_7_B
  | .b7, .C => .set_7_C
  | .b7, .D => .set_7_D
  | .b7, .E => .set_7_E
  | .b7, .H => .set_7_H
  | .b7, .L => .set_7_L
  | .b7, .A => .set_7_A

/-- `SET b,(HL)` (R271). -/
def Instr.setM : BitNo → Instr
  | .b0 => .set_0_mHL
  | .b1 => .set_1_mHL
  | .b2 => .set_2_mHL
  | .b3 => .set_3_mHL
  | .b4 => .set_4_mHL
  | .b5 => .set_5_mHL
  | .b6 => .set_6_mHL
  | .b7 => .set_7_mHL

/-- `JP cc,a16` (R282). -/
def Instr.jpC : Cond → Word → Instr
  | .NZ, v => .jp_NZ_a16 v
  | .Z, v => .jp_Z_a16 v
  | .NC, v => .jp_NC_a16 v
  | .C, v => .jp_C_a16 v

/-- `JR cc,e8` (R285). -/
def Instr.jrC : Cond → Byte → Instr
  | .NZ, v => .jr_NZ_e8 v
  | .Z, v => .jr_Z_e8 v
  | .NC, v => .jr_NC_e8 v
  | .C, v => .jr_C_e8 v

/-- `CALL cc,a16` (R287). -/
def Instr.callC : Cond → Word → Instr
  | .NZ, v => .call_NZ_a16 v
  | .Z, v => .call_Z_a16 v
  | .NC, v => .call_NC_a16 v
  | .C, v => .call_C_a16 v

/-- `RET cc` (R289). -/
def Instr.retC : Cond → Instr
  | .NZ => .ret_NZ
  | .Z => .ret_Z
  | .NC => .ret_NC
  | .C => .ret_C

/-- `RST t`, t = 8 y (R291). -/
def Instr.rst : BitNo → Instr
  | .b0 => .rst_00H
  | .b1 => .rst_08H
  | .b2 => .rst_10H
  | .b3 => .rst_18H
  | .b4 => .rst_20H
  | .b5 => .rst_28H
  | .b6 => .rst_30H
  | .b7 => .rst_38H

/-- The eleven undefined opcodes and their rows (R116, R306). -/
def Instr.undefinedRows : List (Byte × Instr) :=
  [(0xD3, .undefined_D3), (0xDB, .undefined_DB), (0xDD, .undefined_DD), (0xE3, .undefined_E3), (0xE4, .undefined_E4), (0xEB, .undefined_EB)] ++
  [(0xEC, .undefined_EC), (0xED, .undefined_ED), (0xF4, .undefined_F4), (0xFC, .undefined_FC), (0xFD, .undefined_FD)]

end Sys2Proof
end

