-- ==== Sys2Proof/WellFormed.lean ====
section
/-! DEFINITION. Which instruction terms are instructions. Every operand of a constructor has the width its encoding gives
it (R100, R109), so one check is left: the escape. -/

namespace Sys2Proof

/-- The base entry 0xCB is not an instruction by itself: "the prefix and its second byte form one instruction" (R305),
and that instruction is the extended row of the second byte (R101, R115). -/
def Instr.isEscape : Instr → Bool
  | .prefix_CB _ => true
  | _ => false

/-- An instruction that bytes of memory can be. -/
def Instr.wellFormed (i : Instr) : Bool := !i.isEscape

end Sys2Proof
end

