-- ==== Sys2Proof/Decode.lean ====
section
/-! DEFINITION. From bytes to an instruction and back (30_encoding.md). The two tables are the grids of R119: row = high
nibble of the opcode byte, column = low nibble. Every opcode byte is an entry, the undefined ones too, so the only
bytes the decoder rejects are too few of them. -/

namespace Sys2Proof

open Machine (cat hiByte loByte)

/-- The length of an instruction in bytes (R100). -/
inductive InstrLen where
  | one
  | two
  | three
  deriving DecidableEq, Repr

/-- The first bytes of the 3-byte instructions (R110). -/
def threeByteOps : List Byte :=
  [0x01, 0x11, 0x21, 0x31, 0x08, 0xC2, 0xCA, 0xD2, 0xDA, 0xC3, 0xC4, 0xCC, 0xD4, 0xDC, 0xCD, 0xEA, 0xFA]

/-- The first bytes of the 2-byte instructions (R110). -/
def twoByteOps : List Byte :=
  [0x06, 0x0E, 0x16, 0x1E, 0x26, 0x2E, 0x36, 0x3E, 0x18, 0x20, 0x28, 0x30, 0x38] ++
  [0xC6, 0xCE, 0xD6, 0xDE, 0xE6, 0xEE, 0xF6, 0xFE, 0xE0, 0xF0, 0xE8, 0xF8, 0xCB, 0x10]

/-- The length from the first byte alone (R110). -/
def opLength (op : Byte) : InstrLen :=
  if op ∈ threeByteOps then .three else if op ∈ twoByteOps then .two else .one

/-- The number of bytes. -/
def InstrLen.toNat : InstrLen → Nat
  | .one => 1
  | .two => 2
  | .three => 3

/-- An entry of the base table: the instruction of the two bytes after the opcode (R109; an entry uses as many of them
as its length has). -/
abbrev BaseEntry := Byte → Byte → Instr

/-- R119, base row 0x. -/
def baseRow0 : List BaseEntry :=
  [fun _ _ => .nop, fun lo hi => .ld_BC_n16 (cat hi lo), fun _ _ => .ld_mBC_A, fun _ _ => .inc_BC,
   fun _ _ => .inc_B, fun _ _ => .dec_B, fun b _ => .ld_B_n8 b, fun _ _ => .rlca,
   fun lo hi => .ld_ma16_SP (cat hi lo), fun _ _ => .add_HL_BC, fun _ _ => .ld_A_mBC, fun _ _ => .dec_BC,
   fun _ _ => .inc_C, fun _ _ => .dec_C, fun b _ => .ld_C_n8 b, fun _ _ => .rrca]

/-- R119, base row 1x. -/
def baseRow1 : List BaseEntry :=
  [fun b _ => .stop b, fun lo hi => .ld_DE_n16 (cat hi lo), fun _ _ => .ld_mDE_A, fun _ _ => .inc_DE,
   fun _ _ => .inc_D, fun _ _ => .dec_D, fun b _ => .ld_D_n8 b, fun _ _ => .rla,
   fun b _ => .jr_e8 b, fun _ _ => .add_HL_DE, fun _ _ => .ld_A_mDE, fun _ _ => .dec_DE,
   fun _ _ => .inc_E, fun _ _ => .dec_E, fun b _ => .ld_E_n8 b, fun _ _ => .rra]

/-- R119, base row 2x. -/
def baseRow2 : List BaseEntry :=
  [fun b _ => .jr_NZ_e8 b, fun lo hi => .ld_HL_n16 (cat hi lo), fun _ _ => .ld_mHLi_A, fun _ _ => .inc_HL,
   fun _ _ => .inc_H, fun _ _ => .dec_H, fun b _ => .ld_H_n8 b, fun _ _ => .daa,
   fun b _ => .jr_Z_e8 b, fun _ _ => .add_HL_HL, fun _ _ => .ld_A_mHLi, fun _ _ => .dec_HL,
   fun _ _ => .inc_L, fun _ _ => .dec_L, fun b _ => .ld_L_n8 b, fun _ _ => .cpl]

/-- R119, base row 3x. -/
def baseRow3 : List BaseEntry :=
  [fun b _ => .jr_NC_e8 b, fun lo hi => .ld_SP_n16 (cat hi lo), fun _ _ => .ld_mHLd_A, fun _ _ => .inc_SP,
   fun _ _ => .inc_mHL, fun _ _ => .dec_mHL, fun b _ => .ld_mHL_n8 b, fun _ _ => .scf,
   fun b _ => .jr_C_e8 b, fun _ _ => .add_HL_SP, fun _ _ => .ld_A_mHLd, fun _ _ => .dec_SP,
   fun _ _ => .inc_A, fun _ _ => .dec_A, fun b _ => .ld_A_n8 b, fun _ _ => .ccf]

/-- R119, base row 4x. -/
def baseRow4 : List BaseEntry :=
  [fun _ _ => .ld_B_B, fun _ _ => .ld_B_C, fun _ _ => .ld_B_D, fun _ _ => .ld_B_E,
   fun _ _ => .ld_B_H, fun _ _ => .ld_B_L, fun _ _ => .ld_B_mHL, fun _ _ => .ld_B_A,
   fun _ _ => .ld_C_B, fun _ _ => .ld_C_C, fun _ _ => .ld_C_D, fun _ _ => .ld_C_E,
   fun _ _ => .ld_C_H, fun _ _ => .ld_C_L, fun _ _ => .ld_C_mHL, fun _ _ => .ld_C_A]

/-- R119, base row 5x. -/
def baseRow5 : List BaseEntry :=
  [fun _ _ => .ld_D_B, fun _ _ => .ld_D_C, fun _ _ => .ld_D_D, fun _ _ => .ld_D_E,
   fun _ _ => .ld_D_H, fun _ _ => .ld_D_L, fun _ _ => .ld_D_mHL, fun _ _ => .ld_D_A,
   fun _ _ => .ld_E_B, fun _ _ => .ld_E_C, fun _ _ => .ld_E_D, fun _ _ => .ld_E_E,
   fun _ _ => .ld_E_H, fun _ _ => .ld_E_L, fun _ _ => .ld_E_mHL, fun _ _ => .ld_E_A]

/-- R119, base row 6x. -/
def baseRow6 : List BaseEntry :=
  [fun _ _ => .ld_H_B, fun _ _ => .ld_H_C, fun _ _ => .ld_H_D, fun _ _ => .ld_H_E,
   fun _ _ => .ld_H_H, fun _ _ => .ld_H_L, fun _ _ => .ld_H_mHL, fun _ _ => .ld_H_A,
   fun _ _ => .ld_L_B, fun _ _ => .ld_L_C, fun _ _ => .ld_L_D, fun _ _ => .ld_L_E,
   fun _ _ => .ld_L_H, fun _ _ => .ld_L_L, fun _ _ => .ld_L_mHL, fun _ _ => .ld_L_A]

/-- R119, base row 7x. -/
def baseRow7 : List BaseEntry :=
  [fun _ _ => .ld_mHL_B, fun _ _ => .ld_mHL_C, fun _ _ => .ld_mHL_D, fun _ _ => .ld_mHL_E,
   fun _ _ => .ld_mHL_H, fun _ _ => .ld_mHL_L, fun _ _ => .halt, fun _ _ => .ld_mHL_A,
   fun _ _ => .ld_A_B, fun _ _ => .ld_A_C, fun _ _ => .ld_A_D, fun _ _ => .ld_A_E,
   fun _ _ => .ld_A_H, fun _ _ => .ld_A_L, fun _ _ => .ld_A_mHL, fun _ _ => .ld_A_A]

/-- R119, base row 8x. -/
def baseRow8 : List BaseEntry :=
  [fun _ _ => .add_A_B, fun _ _ => .add_A_C, fun _ _ => .add_A_D, fun _ _ => .add_A_E,
   fun _ _ => .add_A_H, fun _ _ => .add_A_L, fun _ _ => .add_A_mHL, fun _ _ => .add_A_A,
   fun _ _ => .adc_A_B, fun _ _ => .adc_A_C, fun _ _ => .adc_A_D, fun _ _ => .adc_A_E,
   fun _ _ => .adc_A_H, fun _ _ => .adc_A_L, fun _ _ => .adc_A_mHL, fun _ _ => .adc_A_A]

/-- R119, base row 9x. -/
def baseRow9 : List BaseEntry :=
  [fun _ _ => .sub_B, fun _ _ => .sub_C, fun _ _ => .sub_D, fun _ _ => .sub_E,
   fun _ _ => .sub_H, fun _ _ => .sub_L, fun _ _ => .sub_mHL, fun _ _ => .sub_A,
   fun _ _ => .sbc_A_B, fun _ _ => .sbc_A_C, fun _ _ => .sbc_A_D, fun _ _ => .sbc_A_E,
   fun _ _ => .sbc_A_H, fun _ _ => .sbc_A_L, fun _ _ => .sbc_A_mHL, fun _ _ => .sbc_A_A]

/-- R119, base row Ax. -/
def baseRowA : List BaseEntry :=
  [fun _ _ => .and_B, fun _ _ => .and_C, fun _ _ => .and_D, fun _ _ => .and_E,
   fun _ _ => .and_H, fun _ _ => .and_L, fun _ _ => .and_mHL, fun _ _ => .and_A,
   fun _ _ => .xor_B, fun _ _ => .xor_C, fun _ _ => .xor_D, fun _ _ => .xor_E,
   fun _ _ => .xor_H, fun _ _ => .xor_L, fun _ _ => .xor_mHL, fun _ _ => .xor_A]

/-- R119, base row Bx. -/
def baseRowB : List BaseEntry :=
  [fun _ _ => .or_B, fun _ _ => .or_C, fun _ _ => .or_D, fun _ _ => .or_E,
   fun _ _ => .or_H, fun _ _ => .or_L, fun _ _ => .or_mHL, fun _ _ => .or_A,
   fun _ _ => .cp_B, fun _ _ => .cp_C, fun _ _ => .cp_D, fun _ _ => .cp_E,
   fun _ _ => .cp_H, fun _ _ => .cp_L, fun _ _ => .cp_mHL, fun _ _ => .cp_A]

/-- R119, base row Cx. -/
def baseRowC : List BaseEntry :=
  [fun _ _ => .ret_NZ, fun _ _ => .pop_BC, fun lo hi => .jp_NZ_a16 (cat hi lo), fun lo hi => .jp_a16 (cat hi lo),
   fun lo hi => .call_NZ_a16 (cat hi lo), fun _ _ => .push_BC, fun b _ => .add_A_n8 b, fun _ _ => .rst_00H,
   fun _ _ => .ret_Z, fun _ _ => .ret, fun lo hi => .jp_Z_a16 (cat hi lo), fun b _ => .prefix_CB b,
   fun lo hi => .call_Z_a16 (cat hi lo), fun lo hi => .call_a16 (cat hi lo), fun b _ => .adc_A_n8 b, fun _ _ => .rst_08H]

/-- R119, base row Dx. -/
def baseRowD : List BaseEntry :=
  [fun _ _ => .ret_NC, fun _ _ => .pop_DE, fun lo hi => .jp_NC_a16 (cat hi lo), fun _ _ => .undefined_D3,
   fun lo hi => .call_NC_a16 (cat hi lo), fun _ _ => .push_DE, fun b _ => .sub_n8 b, fun _ _ => .rst_10H,
   fun _ _ => .ret_C, fun _ _ => .reti, fun lo hi => .jp_C_a16 (cat hi lo), fun _ _ => .undefined_DB,
   fun lo hi => .call_C_a16 (cat hi lo), fun _ _ => .undefined_DD, fun b _ => .sbc_A_n8 b, fun _ _ => .rst_18H]

/-- R119, base row Ex. -/
def baseRowE : List BaseEntry :=
  [fun b _ => .ldh_ma8_A b, fun _ _ => .pop_HL, fun _ _ => .ld_mC_A, fun _ _ => .undefined_E3,
   fun _ _ => .undefined_E4, fun _ _ => .push_HL, fun b _ => .and_n8 b, fun _ _ => .rst_20H,
   fun b _ => .add_SP_e8 b, fun _ _ => .jp_HL, fun lo hi => .ld_ma16_A (cat hi lo), fun _ _ => .undefined_EB,
   fun _ _ => .undefined_EC, fun _ _ => .undefined_ED, fun b _ => .xor_n8 b, fun _ _ => .rst_28H]

/-- R119, base row Fx. -/
def baseRowF : List BaseEntry :=
  [fun b _ => .ldh_A_ma8 b, fun _ _ => .pop_AF, fun _ _ => .ld_A_mC, fun _ _ => .di,
   fun _ _ => .undefined_F4, fun _ _ => .push_AF, fun b _ => .or_n8 b, fun _ _ => .rst_30H,
   fun b _ => .ld_HL_SPe8 b, fun _ _ => .ld_SP_HL, fun lo hi => .ld_A_ma16 (cat hi lo), fun _ _ => .ei,
   fun _ _ => .undefined_FC, fun _ _ => .undefined_FD, fun b _ => .cp_n8 b, fun _ _ => .rst_38H]

/-- The base table (R119). -/
def baseTable : List BaseEntry :=
  baseRow0 ++ baseRow1 ++ baseRow2 ++ baseRow3 ++ baseRow4 ++ baseRow5 ++ baseRow6 ++ baseRow7 ++
  baseRow8 ++ baseRow9 ++ baseRowA ++ baseRowB ++ baseRowC ++ baseRowD ++ baseRowE ++ baseRowF

/-- R119, extended row 0x. -/
def extendedRow0 : List Instr :=
  [.rlc_B, .rlc_C, .rlc_D, .rlc_E, .rlc_H, .rlc_L, .rlc_mHL, .rlc_A,
   .rrc_B, .rrc_C, .rrc_D, .rrc_E, .rrc_H, .rrc_L, .rrc_mHL, .rrc_A]

/-- R119, extended row 1x. -/
def extendedRow1 : List Instr :=
  [.rl_B, .rl_C, .rl_D, .rl_E, .rl_H, .rl_L, .rl_mHL, .rl_A,
   .rr_B, .rr_C, .rr_D, .rr_E, .rr_H, .rr_L, .rr_mHL, .rr_A]

/-- R119, extended row 2x. -/
def extendedRow2 : List Instr :=
  [.sla_B, .sla_C, .sla_D, .sla_E, .sla_H, .sla_L, .sla_mHL, .sla_A,
   .sra_B, .sra_C, .sra_D, .sra_E, .sra_H, .sra_L, .sra_mHL, .sra_A]

/-- R119, extended row 3x. -/
def extendedRow3 : List Instr :=
  [.swap_B, .swap_C, .swap_D, .swap_E, .swap_H, .swap_L, .swap_mHL, .swap_A,
   .srl_B, .srl_C, .srl_D, .srl_E, .srl_H, .srl_L, .srl_mHL, .srl_A]

/-- R119, extended row 4x. -/
def extendedRow4 : List Instr :=
  [.bit_0_B, .bit_0_C, .bit_0_D, .bit_0_E, .bit_0_H, .bit_0_L, .bit_0_mHL, .bit_0_A,
   .bit_1_B, .bit_1_C, .bit_1_D, .bit_1_E, .bit_1_H, .bit_1_L, .bit_1_mHL, .bit_1_A]

/-- R119, extended row 5x. -/
def extendedRow5 : List Instr :=
  [.bit_2_B, .bit_2_C, .bit_2_D, .bit_2_E, .bit_2_H, .bit_2_L, .bit_2_mHL, .bit_2_A,
   .bit_3_B, .bit_3_C, .bit_3_D, .bit_3_E, .bit_3_H, .bit_3_L, .bit_3_mHL, .bit_3_A]

/-- R119, extended row 6x. -/
def extendedRow6 : List Instr :=
  [.bit_4_B, .bit_4_C, .bit_4_D, .bit_4_E, .bit_4_H, .bit_4_L, .bit_4_mHL, .bit_4_A,
   .bit_5_B, .bit_5_C, .bit_5_D, .bit_5_E, .bit_5_H, .bit_5_L, .bit_5_mHL, .bit_5_A]

/-- R119, extended row 7x. -/
def extendedRow7 : List Instr :=
  [.bit_6_B, .bit_6_C, .bit_6_D, .bit_6_E, .bit_6_H, .bit_6_L, .bit_6_mHL, .bit_6_A,
   .bit_7_B, .bit_7_C, .bit_7_D, .bit_7_E, .bit_7_H, .bit_7_L, .bit_7_mHL, .bit_7_A]

/-- R119, extended row 8x. -/
def extendedRow8 : List Instr :=
  [.res_0_B, .res_0_C, .res_0_D, .res_0_E, .res_0_H, .res_0_L, .res_0_mHL, .res_0_A,
   .res_1_B, .res_1_C, .res_1_D, .res_1_E, .res_1_H, .res_1_L, .res_1_mHL, .res_1_A]

/-- R119, extended row 9x. -/
def extendedRow9 : List Instr :=
  [.res_2_B, .res_2_C, .res_2_D, .res_2_E, .res_2_H, .res_2_L, .res_2_mHL, .res_2_A,
   .res_3_B, .res_3_C, .res_3_D, .res_3_E, .res_3_H, .res_3_L, .res_3_mHL, .res_3_A]

/-- R119, extended row Ax. -/
def extendedRowA : List Instr :=
  [.res_4_B, .res_4_C, .res_4_D, .res_4_E, .res_4_H, .res_4_L, .res_4_mHL, .res_4_A,
   .res_5_B, .res_5_C, .res_5_D, .res_5_E, .res_5_H, .res_5_L, .res_5_mHL, .res_5_A]

/-- R119, extended row Bx. -/
def extendedRowB : List Instr :=
  [.res_6_B, .res_6_C, .res_6_D, .res_6_E, .res_6_H, .res_6_L, .res_6_mHL, .res_6_A,
   .res_7_B, .res_7_C, .res_7_D, .res_7_E, .res_7_H, .res_7_L, .res_7_mHL, .res_7_A]

/-- R119, extended row Cx. -/
def extendedRowC : List Instr :=
  [.set_0_B, .set_0_C, .set_0_D, .set_0_E, .set_0_H, .set_0_L, .set_0_mHL, .set_0_A,
   .set_1_B, .set_1_C, .set_1_D, .set_1_E, .set_1_H, .set_1_L, .set_1_mHL, .set_1_A]

/-- R119, extended row Dx. -/
def extendedRowD : List Instr :=
  [.set_2_B, .set_2_C, .set_2_D, .set_2_E, .set_2_H, .set_2_L, .set_2_mHL, .set_2_A,
   .set_3_B, .set_3_C, .set_3_D, .set_3_E, .set_3_H, .set_3_L, .set_3_mHL, .set_3_A]

/-- R119, extended row Ex. -/
def extendedRowE : List Instr :=
  [.set_4_B, .set_4_C, .set_4_D, .set_4_E, .set_4_H, .set_4_L, .set_4_mHL, .set_4_A,
   .set_5_B, .set_5_C, .set_5_D, .set_5_E, .set_5_H, .set_5_L, .set_5_mHL, .set_5_A]

/-- R119, extended row Fx. -/
def extendedRowF : List Instr :=
  [.set_6_B, .set_6_C, .set_6_D, .set_6_E, .set_6_H, .set_6_L, .set_6_mHL, .set_6_A,
   .set_7_B, .set_7_C, .set_7_D, .set_7_E, .set_7_H, .set_7_L, .set_7_mHL, .set_7_A]

/-- The extended table (R115, R119). -/
def extendedTable : List Instr :=
  extendedRow0 ++ extendedRow1 ++ extendedRow2 ++ extendedRow3 ++ extendedRow4 ++ extendedRow5 ++ extendedRow6 ++ extendedRow7 ++
  extendedRow8 ++ extendedRow9 ++ extendedRowA ++ extendedRowB ++ extendedRowC ++ extendedRowD ++ extendedRowE ++ extendedRowF

/-- The base-table entry of an opcode byte with the two bytes after it; 0xCB gives the escape (R101). -/
def decodeBase (op b1 b2 : Byte) : Instr := (baseTable.getD op.toNat (fun _ _ => .nop)) b1 b2

/-- The extended-table entry of the byte after 0xCB. -/
def decodeExtended (op2 : Byte) : Instr := extendedTable.getD op2.toNat .nop

/-- The escape goes on to the extended table (R101, R128); any other entry stands. -/
def expandEscape : Instr → Instr
  | .prefix_CB op2 => decodeExtended op2
  | i => i

/-- The instruction of three bytes at consecutive addresses, the first its opcode. -/
def decode3 (op b1 b2 : Byte) : Instr := expandEscape (decodeBase op b1 b2)

/-- Why bytes are no instruction. -/
inductive DecodeError where
  | noBytes
  | truncated (op : Byte)
  deriving DecidableEq, Repr

/-- Decode the first instruction of a list of bytes, and give the bytes after it. -/
def decode : List Byte → Except DecodeError (Instr × List Byte)
  | [] => .error .noBytes
  | op :: rest =>
    match opLength op, rest with
    | .one, rest => .ok (decode3 op 0 0, rest)
    | .two, b1 :: rest => .ok (decode3 op b1 0, rest)
    | .three, b1 :: b2 :: rest => .ok (decode3 op b1 b2, rest)
    | _, _ => .error (.truncated op)

/-- The bytes of an instruction, in address order (R100, R109; the opcode byte of each row of opcode_table.json). The
escape is laid out as the two bytes it escapes with. -/
def encode : Instr → List Byte
  | .nop => [0x00]
  | .ld_BC_n16 n => [0x01, loByte n, hiByte n]
  | .ld_mBC_A => [0x02]
  | .inc_BC => [0x03]
  | .inc_B => [0x04]
  | .dec_B => [0x05]
  | .ld_B_n8 n => [0x06, n]
  | .rlca => [0x07]
  | .ld_ma16_SP a => [0x08, loByte a, hiByte a]
  | .add_HL_BC => [0x09]
  | .ld_A_mBC => [0x0A]
  | .dec_BC => [0x0B]
  | .inc_C => [0x0C]
  | .dec_C => [0x0D]
  | .ld_C_n8 n => [0x0E, n]
  | .rrca => [0x0F]
  | .stop n => [0x10, n]
  | .ld_DE_n16 n => [0x11, loByte n, hiByte n]
  | .ld_mDE_A => [0x12]
  | .inc_DE => [0x13]
  | .inc_D => [0x14]
  | .dec_D => [0x15]
  | .ld_D_n8 n => [0x16, n]
  | .rla => [0x17]
  | .jr_e8 e => [0x18, e]
  | .add_HL_DE => [0x19]
  | .ld_A_mDE => [0x1A]
  | .dec_DE => [0x1B]
  | .inc_E => [0x1C]
  | .dec_E => [0x1D]
  | .ld_E_n8 n => [0x1E, n]
  | .rra => [0x1F]
  | .jr_NZ_e8 e => [0x20, e]
  | .ld_HL_n16 n => [0x21, loByte n, hiByte n]
  | .ld_mHLi_A => [0x22]
  | .inc_HL => [0x23]
  | .inc_H => [0x24]
  | .dec_H => [0x25]
  | .ld_H_n8 n => [0x26, n]
  | .daa => [0x27]
  | .jr_Z_e8 e => [0x28, e]
  | .add_HL_HL => [0x29]
  | .ld_A_mHLi => [0x2A]
  | .dec_HL => [0x2B]
  | .inc_L => [0x2C]
  | .dec_L => [0x2D]
  | .ld_L_n8 n => [0x2E, n]
  | .cpl => [0x2F]
  | .jr_NC_e8 e => [0x30, e]
  | .ld_SP_n16 n => [0x31, loByte n, hiByte n]
  | .ld_mHLd_A => [0x32]
  | .inc_SP => [0x33]
  | .inc_mHL => [0x34]
  | .dec_mHL => [0x35]
  | .ld_mHL_n8 n => [0x36, n]
  | .scf => [0x37]
  | .jr_C_e8 e => [0x38, e]
  | .add_HL_SP => [0x39]
  | .ld_A_mHLd => [0x3A]
  | .dec_SP => [0x3B]
  | .inc_A => [0x3C]
  | .dec_A => [0x3D]
  | .ld_A_n8 n => [0x3E, n]
  | .ccf => [0x3F]
  | .ld_B_B => [0x40]
  | .ld_B_C => [0x41]
  | .ld_B_D => [0x42]
  | .ld_B_E => [0x43]
  | .ld_B_H => [0x44]
  | .ld_B_L => [0x45]
  | .ld_B_mHL => [0x46]
  | .ld_B_A => [0x47]
  | .ld_C_B => [0x48]
  | .ld_C_C => [0x49]
  | .ld_C_D => [0x4A]
  | .ld_C_E => [0x4B]
  | .ld_C_H => [0x4C]
  | .ld_C_L => [0x4D]
  | .ld_C_mHL => [0x4E]
  | .ld_C_A => [0x4F]
  | .ld_D_B => [0x50]
  | .ld_D_C => [0x51]
  | .ld_D_D => [0x52]
  | .ld_D_E => [0x53]
  | .ld_D_H => [0x54]
  | .ld_D_L => [0x55]
  | .ld_D_mHL => [0x56]
  | .ld_D_A => [0x57]
  | .ld_E_B => [0x58]
  | .ld_E_C => [0x59]
  | .ld_E_D => [0x5A]
  | .ld_E_E => [0x5B]
  | .ld_E_H => [0x5C]
  | .ld_E_L => [0x5D]
  | .ld_E_mHL => [0x5E]
  | .ld_E_A => [0x5F]
  | .ld_H_B => [0x60]
  | .ld_H_C => [0x61]
  | .ld_H_D => [0x62]
  | .ld_H_E => [0x63]
  | .ld_H_H => [0x64]
  | .ld_H_L => [0x65]
  | .ld_H_mHL => [0x66]
  | .ld_H_A => [0x67]
  | .ld_L_B => [0x68]
  | .ld_L_C => [0x69]
  | .ld_L_D => [0x6A]
  | .ld_L_E => [0x6B]
  | .ld_L_H => [0x6C]
  | .ld_L_L => [0x6D]
  | .ld_L_mHL => [0x6E]
  | .ld_L_A => [0x6F]
  | .ld_mHL_B => [0x70]
  | .ld_mHL_C => [0x71]
  | .ld_mHL_D => [0x72]
  | .ld_mHL_E => [0x73]
  | .ld_mHL_H => [0x74]
  | .ld_mHL_L => [0x75]
  | .halt => [0x76]
  | .ld_mHL_A => [0x77]
  | .ld_A_B => [0x78]
  | .ld_A_C => [0x79]
  | .ld_A_D => [0x7A]
  | .ld_A_E => [0x7B]
  | .ld_A_H => [0x7C]
  | .ld_A_L => [0x7D]
  | .ld_A_mHL => [0x7E]
  | .ld_A_A => [0x7F]
  | .add_A_B => [0x80]
  | .add_A_C => [0x81]
  | .add_A_D => [0x82]
  | .add_A_E => [0x83]
  | .add_A_H => [0x84]
  | .add_A_L => [0x85]
  | .add_A_mHL => [0x86]
  | .add_A_A => [0x87]
  | .adc_A_B => [0x88]
  | .adc_A_C => [0x89]
  | .adc_A_D => [0x8A]
  | .adc_A_E => [0x8B]
  | .adc_A_H => [0x8C]
  | .adc_A_L => [0x8D]
  | .adc_A_mHL => [0x8E]
  | .adc_A_A => [0x8F]
  | .sub_B => [0x90]
  | .sub_C => [0x91]
  | .sub_D => [0x92]
  | .sub_E => [0x93]
  | .sub_H => [0x94]
  | .sub_L => [0x95]
  | .sub_mHL => [0x96]
  | .sub_A => [0x97]
  | .sbc_A_B => [0x98]
  | .sbc_A_C => [0x99]
  | .sbc_A_D => [0x9A]
  | .sbc_A_E => [0x9B]
  | .sbc_A_H => [0x9C]
  | .sbc_A_L => [0x9D]
  | .sbc_A_mHL => [0x9E]
  | .sbc_A_A => [0x9F]
  | .and_B => [0xA0]
  | .and_C => [0xA1]
  | .and_D => [0xA2]
  | .and_E => [0xA3]
  | .and_H => [0xA4]
  | .and_L => [0xA5]
  | .and_mHL => [0xA6]
  | .and_A => [0xA7]
  | .xor_B => [0xA8]
  | .xor_C => [0xA9]
  | .xor_D => [0xAA]
  | .xor_E => [0xAB]
  | .xor_H => [0xAC]
  | .xor_L => [0xAD]
  | .xor_mHL => [0xAE]
  | .xor_A => [0xAF]
  | .or_B => [0xB0]
  | .or_C => [0xB1]
  | .or_D => [0xB2]
  | .or_E => [0xB3]
  | .or_H => [0xB4]
  | .or_L => [0xB5]
  | .or_mHL => [0xB6]
  | .or_A => [0xB7]
  | .cp_B => [0xB8]
  | .cp_C => [0xB9]
  | .cp_D => [0xBA]
  | .cp_E => [0xBB]
  | .cp_H => [0xBC]
  | .cp_L => [0xBD]
  | .cp_mHL => [0xBE]
  | .cp_A => [0xBF]
  | .ret_NZ => [0xC0]
  | .pop_BC => [0xC1]
  | .jp_NZ_a16 a => [0xC2, loByte a, hiByte a]
  | .jp_a16 a => [0xC3, loByte a, hiByte a]
  | .call_NZ_a16 a => [0xC4, loByte a, hiByte a]
  | .push_BC => [0xC5]
  | .add_A_n8 n => [0xC6, n]
  | .rst_00H => [0xC7]
  | .ret_Z => [0xC8]
  | .ret => [0xC9]
  | .jp_Z_a16 a => [0xCA, loByte a, hiByte a]
  | .prefix_CB op2 => [0xCB, op2]
  | .call_Z_a16 a => [0xCC, loByte a, hiByte a]
  | .call_a16 a => [0xCD, loByte a, hiByte a]
  | .adc_A_n8 n => [0xCE, n]
  | .rst_08H => [0xCF]
  | .ret_NC => [0xD0]
  | .pop_DE => [0xD1]
  | .jp_NC_a16 a => [0xD2, loByte a, hiByte a]
  | .undefined_D3 => [0xD3]
  | .call_NC_a16 a => [0xD4, loByte a, hiByte a]
  | .push_DE => [0xD5]
  | .sub_n8 n => [0xD6, n]
  | .rst_10H => [0xD7]
  | .ret_C => [0xD8]
  | .reti => [0xD9]
  | .jp_C_a16 a => [0xDA, loByte a, hiByte a]
  | .undefined_DB => [0xDB]
  | .call_C_a16 a => [0xDC, loByte a, hiByte a]
  | .undefined_DD => [0xDD]
  | .sbc_A_n8 n => [0xDE, n]
  | .rst_18H => [0xDF]
  | .ldh_ma8_A a => [0xE0, a]
  | .pop_HL => [0xE1]
  | .ld_mC_A => [0xE2]
  | .undefined_E3 => [0xE3]
  | .undefined_E4 => [0xE4]
  | .push_HL => [0xE5]
  | .and_n8 n => [0xE6, n]
  | .rst_20H => [0xE7]
  | .add_SP_e8 e => [0xE8, e]
  | .jp_HL => [0xE9]
  | .ld_ma16_A a => [0xEA, loByte a, hiByte a]
  | .undefined_EB => [0xEB]
  | .undefined_EC => [0xEC]
  | .undefined_ED => [0xED]
  | .xor_n8 n => [0xEE, n]
  | .rst_28H => [0xEF]
  | .ldh_A_ma8 a => [0xF0, a]
  | .pop_AF => [0xF1]
  | .ld_A_mC => [0xF2]
  | .di => [0xF3]
  | .undefined_F4 => [0xF4]
  | .push_AF => [0xF5]
  | .or_n8 n => [0xF6, n]
  | .rst_30H => [0xF7]
  | .ld_HL_SPe8 e => [0xF8, e]
  | .ld_SP_HL => [0xF9]
  | .ld_A_ma16 a => [0xFA, loByte a, hiByte a]
  | .ei => [0xFB]
  | .undefined_FC => [0xFC]
  | .undefined_FD => [0xFD]
  | .cp_n8 n => [0xFE, n]
  | .rst_38H => [0xFF]
  | .rlc_B => [0xCB, 0x00]
  | .rlc_C => [0xCB, 0x01]
  | .rlc_D => [0xCB, 0x02]
  | .rlc_E => [0xCB, 0x03]
  | .rlc_H => [0xCB, 0x04]
  | .rlc_L => [0xCB, 0x05]
  | .rlc_mHL => [0xCB, 0x06]
  | .rlc_A => [0xCB, 0x07]
  | .rrc_B => [0xCB, 0x08]
  | .rrc_C => [0xCB, 0x09]
  | .rrc_D => [0xCB, 0x0A]
  | .rrc_E => [0xCB, 0x0B]
  | .rrc_H => [0xCB, 0x0C]
  | .rrc_L => [0xCB, 0x0D]
  | .rrc_mHL => [0xCB, 0x0E]
  | .rrc_A => [0xCB, 0x0F]
  | .rl_B => [0xCB, 0x10]
  | .rl_C => [0xCB, 0x11]
  | .rl_D => [0xCB, 0x12]
  | .rl_E => [0xCB, 0x13]
  | .rl_H => [0xCB, 0x14]
  | .rl_L => [0xCB, 0x15]
  | .rl_mHL => [0xCB, 0x16]
  | .rl_A => [0xCB, 0x17]
  | .rr_B => [0xCB, 0x18]
  | .rr_C => [0xCB, 0x19]
  | .rr_D => [0xCB, 0x1A]
  | .rr_E => [0xCB, 0x1B]
  | .rr_H => [0xCB, 0x1C]
  | .rr_L => [0xCB, 0x1D]
  | .rr_mHL => [0xCB, 0x1E]
  | .rr_A => [0xCB, 0x1F]
  | .sla_B => [0xCB, 0x20]
  | .sla_C => [0xCB, 0x21]
  | .sla_D => [0xCB, 0x22]
  | .sla_E => [0xCB, 0x23]
  | .sla_H => [0xCB, 0x24]
  | .sla_L => [0xCB, 0x25]
  | .sla_mHL => [0xCB, 0x26]
  | .sla_A => [0xCB, 0x27]
  | .sra_B => [0xCB, 0x28]
  | .sra_C => [0xCB, 0x29]
  | .sra_D => [0xCB, 0x2A]
  | .sra_E => [0xCB, 0x2B]
  | .sra_H => [0xCB, 0x2C]
  | .sra_L => [0xCB, 0x2D]
  | .sra_mHL => [0xCB, 0x2E]
  | .sra_A => [0xCB, 0x2F]
  | .swap_B => [0xCB, 0x30]
  | .swap_C => [0xCB, 0x31]
  | .swap_D => [0xCB, 0x32]
  | .swap_E => [0xCB, 0x33]
  | .swap_H => [0xCB, 0x34]
  | .swap_L => [0xCB, 0x35]
  | .swap_mHL => [0xCB, 0x36]
  | .swap_A => [0xCB, 0x37]
  | .srl_B => [0xCB, 0x38]
  | .srl_C => [0xCB, 0x39]
  | .srl_D => [0xCB, 0x3A]
  | .srl_E => [0xCB, 0x3B]
  | .srl_H => [0xCB, 0x3C]
  | .srl_L => [0xCB, 0x3D]
  | .srl_mHL => [0xCB, 0x3E]
  | .srl_A => [0xCB, 0x3F]
  | .bit_0_B => [0xCB, 0x40]
  | .bit_0_C => [0xCB, 0x41]
  | .bit_0_D => [0xCB, 0x42]
  | .bit_0_E => [0xCB, 0x43]
  | .bit_0_H => [0xCB, 0x44]
  | .bit_0_L => [0xCB, 0x45]
  | .bit_0_mHL => [0xCB, 0x46]
  | .bit_0_A => [0xCB, 0x47]
  | .bit_1_B => [0xCB, 0x48]
  | .bit_1_C => [0xCB, 0x49]
  | .bit_1_D => [0xCB, 0x4A]
  | .bit_1_E => [0xCB, 0x4B]
  | .bit_1_H => [0xCB, 0x4C]
  | .bit_1_L => [0xCB, 0x4D]
  | .bit_1_mHL => [0xCB, 0x4E]
  | .bit_1_A => [0xCB, 0x4F]
  | .bit_2_B => [0xCB, 0x50]
  | .bit_2_C => [0xCB, 0x51]
  | .bit_2_D => [0xCB, 0x52]
  | .bit_2_E => [0xCB, 0x53]
  | .bit_2_H => [0xCB, 0x54]
  | .bit_2_L => [0xCB, 0x55]
  | .bit_2_mHL => [0xCB, 0x56]
  | .bit_2_A => [0xCB, 0x57]
  | .bit_3_B => [0xCB, 0x58]
  | .bit_3_C => [0xCB, 0x59]
  | .bit_3_D => [0xCB, 0x5A]
  | .bit_3_E => [0xCB, 0x5B]
  | .bit_3_H => [0xCB, 0x5C]
  | .bit_3_L => [0xCB, 0x5D]
  | .bit_3_mHL => [0xCB, 0x5E]
  | .bit_3_A => [0xCB, 0x5F]
  | .bit_4_B => [0xCB, 0x60]
  | .bit_4_C => [0xCB, 0x61]
  | .bit_4_D => [0xCB, 0x62]
  | .bit_4_E => [0xCB, 0x63]
  | .bit_4_H => [0xCB, 0x64]
  | .bit_4_L => [0xCB, 0x65]
  | .bit_4_mHL => [0xCB, 0x66]
  | .bit_4_A => [0xCB, 0x67]
  | .bit_5_B => [0xCB, 0x68]
  | .bit_5_C => [0xCB, 0x69]
  | .bit_5_D => [0xCB, 0x6A]
  | .bit_5_E => [0xCB, 0x6B]
  | .bit_5_H => [0xCB, 0x6C]
  | .bit_5_L => [0xCB, 0x6D]
  | .bit_5_mHL => [0xCB, 0x6E]
  | .bit_5_A => [0xCB, 0x6F]
  | .bit_6_B => [0xCB, 0x70]
  | .bit_6_C => [0xCB, 0x71]
  | .bit_6_D => [0xCB, 0x72]
  | .bit_6_E => [0xCB, 0x73]
  | .bit_6_H => [0xCB, 0x74]
  | .bit_6_L => [0xCB, 0x75]
  | .bit_6_mHL => [0xCB, 0x76]
  | .bit_6_A => [0xCB, 0x77]
  | .bit_7_B => [0xCB, 0x78]
  | .bit_7_C => [0xCB, 0x79]
  | .bit_7_D => [0xCB, 0x7A]
  | .bit_7_E => [0xCB, 0x7B]
  | .bit_7_H => [0xCB, 0x7C]
  | .bit_7_L => [0xCB, 0x7D]
  | .bit_7_mHL => [0xCB, 0x7E]
  | .bit_7_A => [0xCB, 0x7F]
  | .res_0_B => [0xCB, 0x80]
  | .res_0_C => [0xCB, 0x81]
  | .res_0_D => [0xCB, 0x82]
  | .res_0_E => [0xCB, 0x83]
  | .res_0_H => [0xCB, 0x84]
  | .res_0_L => [0xCB, 0x85]
  | .res_0_mHL => [0xCB, 0x86]
  | .res_0_A => [0xCB, 0x87]
  | .res_1_B => [0xCB, 0x88]
  | .res_1_C => [0xCB, 0x89]
  | .res_1_D => [0xCB, 0x8A]
  | .res_1_E => [0xCB, 0x8B]
  | .res_1_H => [0xCB, 0x8C]
  | .res_1_L => [0xCB, 0x8D]
  | .res_1_mHL => [0xCB, 0x8E]
  | .res_1_A => [0xCB, 0x8F]
  | .res_2_B => [0xCB, 0x90]
  | .res_2_C => [0xCB, 0x91]
  | .res_2_D => [0xCB, 0x92]
  | .res_2_E => [0xCB, 0x93]
  | .res_2_H => [0xCB, 0x94]
  | .res_2_L => [0xCB, 0x95]
  | .res_2_mHL => [0xCB, 0x96]
  | .res_2_A => [0xCB, 0x97]
  | .res_3_B => [0xCB, 0x98]
  | .res_3_C => [0xCB, 0x99]
  | .res_3_D => [0xCB, 0x9A]
  | .res_3_E => [0xCB, 0x9B]
  | .res_3_H => [0xCB, 0x9C]
  | .res_3_L => [0xCB, 0x9D]
  | .res_3_mHL => [0xCB, 0x9E]
  | .res_3_A => [0xCB, 0x9F]
  | .res_4_B => [0xCB, 0xA0]
  | .res_4_C => [0xCB, 0xA1]
  | .res_4_D => [0xCB, 0xA2]
  | .res_4_E => [0xCB, 0xA3]
  | .res_4_H => [0xCB, 0xA4]
  | .res_4_L => [0xCB, 0xA5]
  | .res_4_mHL => [0xCB, 0xA6]
  | .res_4_A => [0xCB, 0xA7]
  | .res_5_B => [0xCB, 0xA8]
  | .res_5_C => [0xCB, 0xA9]
  | .res_5_D => [0xCB, 0xAA]
  | .res_5_E => [0xCB, 0xAB]
  | .res_5_H => [0xCB, 0xAC]
  | .res_5_L => [0xCB, 0xAD]
  | .res_5_mHL => [0xCB, 0xAE]
  | .res_5_A => [0xCB, 0xAF]
  | .res_6_B => [0xCB, 0xB0]
  | .res_6_C => [0xCB, 0xB1]
  | .res_6_D => [0xCB, 0xB2]
  | .res_6_E => [0xCB, 0xB3]
  | .res_6_H => [0xCB, 0xB4]
  | .res_6_L => [0xCB, 0xB5]
  | .res_6_mHL => [0xCB, 0xB6]
  | .res_6_A => [0xCB, 0xB7]
  | .res_7_B => [0xCB, 0xB8]
  | .res_7_C => [0xCB, 0xB9]
  | .res_7_D => [0xCB, 0xBA]
  | .res_7_E => [0xCB, 0xBB]
  | .res_7_H => [0xCB, 0xBC]
  | .res_7_L => [0xCB, 0xBD]
  | .res_7_mHL => [0xCB, 0xBE]
  | .res_7_A => [0xCB, 0xBF]
  | .set_0_B => [0xCB, 0xC0]
  | .set_0_C => [0xCB, 0xC1]
  | .set_0_D => [0xCB, 0xC2]
  | .set_0_E => [0xCB, 0xC3]
  | .set_0_H => [0xCB, 0xC4]
  | .set_0_L => [0xCB, 0xC5]
  | .set_0_mHL => [0xCB, 0xC6]
  | .set_0_A => [0xCB, 0xC7]
  | .set_1_B => [0xCB, 0xC8]
  | .set_1_C => [0xCB, 0xC9]
  | .set_1_D => [0xCB, 0xCA]
  | .set_1_E => [0xCB, 0xCB]
  | .set_1_H => [0xCB, 0xCC]
  | .set_1_L => [0xCB, 0xCD]
  | .set_1_mHL => [0xCB, 0xCE]
  | .set_1_A => [0xCB, 0xCF]
  | .set_2_B => [0xCB, 0xD0]
  | .set_2_C => [0xCB, 0xD1]
  | .set_2_D => [0xCB, 0xD2]
  | .set_2_E => [0xCB, 0xD3]
  | .set_2_H => [0xCB, 0xD4]
  | .set_2_L => [0xCB, 0xD5]
  | .set_2_mHL => [0xCB, 0xD6]
  | .set_2_A => [0xCB, 0xD7]
  | .set_3_B => [0xCB, 0xD8]
  | .set_3_C => [0xCB, 0xD9]
  | .set_3_D => [0xCB, 0xDA]
  | .set_3_E => [0xCB, 0xDB]
  | .set_3_H => [0xCB, 0xDC]
  | .set_3_L => [0xCB, 0xDD]
  | .set_3_mHL => [0xCB, 0xDE]
  | .set_3_A => [0xCB, 0xDF]
  | .set_4_B => [0xCB, 0xE0]
  | .set_4_C => [0xCB, 0xE1]
  | .set_4_D => [0xCB, 0xE2]
  | .set_4_E => [0xCB, 0xE3]
  | .set_4_H => [0xCB, 0xE4]
  | .set_4_L => [0xCB, 0xE5]
  | .set_4_mHL => [0xCB, 0xE6]
  | .set_4_A => [0xCB, 0xE7]
  | .set_5_B => [0xCB, 0xE8]
  | .set_5_C => [0xCB, 0xE9]
  | .set_5_D => [0xCB, 0xEA]
  | .set_5_E => [0xCB, 0xEB]
  | .set_5_H => [0xCB, 0xEC]
  | .set_5_L => [0xCB, 0xED]
  | .set_5_mHL => [0xCB, 0xEE]
  | .set_5_A => [0xCB, 0xEF]
  | .set_6_B => [0xCB, 0xF0]
  | .set_6_C => [0xCB, 0xF1]
  | .set_6_D => [0xCB, 0xF2]
  | .set_6_E => [0xCB, 0xF3]
  | .set_6_H => [0xCB, 0xF4]
  | .set_6_L => [0xCB, 0xF5]
  | .set_6_mHL => [0xCB, 0xF6]
  | .set_6_A => [0xCB, 0xF7]
  | .set_7_B => [0xCB, 0xF8]
  | .set_7_C => [0xCB, 0xF9]
  | .set_7_D => [0xCB, 0xFA]
  | .set_7_E => [0xCB, 0xFB]
  | .set_7_H => [0xCB, 0xFC]
  | .set_7_L => [0xCB, 0xFD]
  | .set_7_mHL => [0xCB, 0xFE]
  | .set_7_A => [0xCB, 0xFF]

/-- The bytes of a row of the table whose bits are `w`, as the table numbers them (log 7): an extended row is 0xCBxx, its
first byte in bits 15-8; the bytes after the row's own are 0. Three bytes, the longest instruction. -/
def tableBytes (nbits w : Nat) : Byte × Byte × Byte :=
  if nbits ≤ 8 then (BitVec.ofNat 8 w, 0, 0)
  else if nbits ≤ 16 then (BitVec.ofNat 8 (w / 256), BitVec.ofNat 8 w, 0)
  else (BitVec.ofNat 8 (w / 65536), BitVec.ofNat 8 (w / 256), BitVec.ofNat 8 w)

/-- The decoder's answer for a row of the table (log 7). An 8-bit row is a row of the base table, so the escape row
answers the escape itself; a longer row goes through the escape. Every opcode byte has an entry, so it always answers. -/
def decodeTableWord (nbits w : Nat) : Option Instr :=
  let (op, b1, b2) := tableBytes nbits w
  some (if nbits ≤ 8 then decodeBase op b1 b2 else decode3 op b1 b2)

end Sys2Proof
end

