-- ==== Sys2Proof/Config.lean ====
section
/-! DEFINITION. The named parameters of the core (spec 00_scope.md R12) as a data type, and the one value the core
leaves to its environment, the buttons (R335). The parameters' default tables are in Machine/Defaults.lean. -/

namespace Sys2Proof

/-- An RGB triple of the frame buffer (R51). -/
structure RGB where
  r : Byte
  g : Byte
  b : Byte
  deriving DecidableEq, Repr, Inhabited

/-- The eight button booleans of the host (R57, R335), true = pressed. -/
structure Buttons where
  right : Bool
  left : Bool
  up : Bool
  down : Bool
  a : Bool
  b : Bool
  select : Bool
  start : Bool
  deriving DecidableEq, Repr, Inhabited

/-- Who reads a byte of the bus. It only tells two button samples of one core step apart (log 3). -/
inductive Access where
  | fetch   -- an opcode or operand byte
  | data    -- a load, or the read of a read-modify-write
  | dma     -- one read of the OAM DMA copy
  deriving DecidableEq, Repr

/-- The ticks a taken conditional adds, by kind (R12 CostTaken, R129). -/
structure CostTaken where
  jr : Nat
  jp : Nat
  call : Nat
  ret : Nat
  deriving DecidableEq, Repr

/-- The RGB triple of each shade (R12 ShadeRGB, R333). -/
structure Shades where
  s0 : RGB
  s1 : RGB
  s2 : RGB
  s3 : RGB
  deriving DecidableEq, Repr

/-- The OPEN parameters of R12 that a step or a reset reads: plain data, held in the state and never written by a step, so that
a statement about every state holds for every value of them (log 2). RomImage is an argument of the host's load. -/
structure Params where
  /-- CostBase, entry by opcode byte (R127, default R135). -/
  costBase : List Nat
  /-- CostCB, entry by extended opcode byte (R128, default R137). -/
  costCB : List Nat
  /-- CostTaken (R129, default R136). -/
  taken : CostTaken
  /-- HaltIdleTicks (R124). -/
  haltIdleTicks : Nat
  /-- HaltSkip, 0 or 1 (R301). -/
  haltSkip : Bool
  /-- ShadeRGB (R333). -/
  shades : Shades
  /-- IoSeed, entry by index of the I/O block; an index past its end is 0x00 (R362). -/
  ioSeed : List Byte
  deriving DecidableEq, Repr

/-- FREE VALUE (log 3): the buttons the environment shows at the n-th draw, to an access of one kind: any value at any
read (R335). -/
opaque Config.buttons : Nat → Access → Buttons

end Sys2Proof
end

