-- ==== Sys2Proof/Machine/Defaults.lean ====
section
/-! DEFINITION. The defaults of the named parameters: the cost tables (40_dispatcher.md R135 to R137), the shades
(R333) and the initial I/O block (70_reset_and_hazards.md R362). -/

namespace Sys2Proof.Machine

/-- R135, rows 0x to 7x: the base cost of each opcode, not-taken for a conditional. DESIGN CHOICE of the spec (D2), log 32. -/
def costBaseLow : List Nat :=
  [4, 12, 8, 8, 4, 4, 8, 4, 20, 8, 8, 8, 4, 4, 8, 4] ++
  [4, 12, 8, 8, 4, 4, 8, 4, 12, 8, 8, 8, 4, 4, 8, 4] ++
  [8, 12, 8, 8, 4, 4, 8, 4, 8, 8, 8, 8, 4, 4, 8, 4] ++
  [8, 12, 8, 8, 12, 12, 12, 4, 8, 8, 8, 8, 4, 4, 8, 4] ++
  [4, 4, 4, 4, 4, 4, 8, 4, 4, 4, 4, 4, 4, 4, 8, 4] ++
  [4, 4, 4, 4, 4, 4, 8, 4, 4, 4, 4, 4, 4, 4, 8, 4] ++
  [4, 4, 4, 4, 4, 4, 8, 4, 4, 4, 4, 4, 4, 4, 8, 4] ++
  [8, 8, 8, 8, 8, 8, 4, 8, 4, 4, 4, 4, 4, 4, 8, 4]

/-- R135, rows 8x to Bx are alike. -/
def costBaseAlu : List Nat := [4, 4, 4, 4, 4, 4, 8, 4, 4, 4, 4, 4, 4, 4, 8, 4]

/-- R135, rows Cx to Fx; 0 is an undefined entry. -/
def costBaseHigh : List Nat :=
  [8, 12, 12, 16, 12, 16, 8, 16, 8, 16, 12, 4, 12, 24, 8, 16] ++
  [8, 12, 12, 0, 12, 16, 8, 16, 8, 16, 12, 0, 12, 0, 8, 16] ++
  [12, 12, 8, 0, 0, 16, 8, 16, 16, 4, 16, 0, 0, 0, 8, 16] ++
  [12, 12, 8, 4, 0, 16, 8, 16, 12, 8, 16, 4, 0, 0, 8, 16]

/-- The default CostBase of R135. -/
def defaultCostBase : List Nat :=
  costBaseLow ++ costBaseAlu ++ costBaseAlu ++ costBaseAlu ++ costBaseAlu ++ costBaseHigh

/-- R137: a row of the extended grid is 4 but for columns x6 and xE. -/
def costCBRow (onHL : Nat) : List Nat :=
  [4, 4, 4, 4, 4, 4, onHL, 4, 4, 4, 4, 4, 4, 4, onHL, 4]

/-- The default CostCB of R137: 12 on (HL) in rows 0x-3x and 8x-Fx, 8 in rows 4x-7x. -/
def defaultCostCB : List Nat :=
  (List.replicate 4 (costCBRow 12)).flatten ++ (List.replicate 4 (costCBRow 8)).flatten ++
  (List.replicate 8 (costCBRow 12)).flatten

/-- The default ShadeRGB of R333 (D26, log 24). -/
def defaultShades : Shades :=
  { s0 := ⟨255, 255, 255⟩, s1 := ⟨192, 192, 192⟩, s2 := ⟨96, 96, 96⟩, s3 := ⟨0, 0, 0⟩ }

/-- The table of R362: index of the I/O block and its value after reset. -/
def ioSeedTable : List (Nat × Byte) :=
  [(0x05, 0x00), (0x06, 0x00), (0x07, 0x00), (0x10, 0x80), (0x11, 0xBF), (0x12, 0xF3), (0x14, 0xBF), (0x16, 0x3F)] ++
  [(0x17, 0x00), (0x19, 0xBF), (0x1A, 0x7F), (0x1B, 0xFF), (0x1C, 0x9F), (0x1E, 0xBF), (0x20, 0xFF), (0x21, 0x00)] ++
  [(0x22, 0x00), (0x23, 0xBF), (0x24, 0x77), (0x25, 0xF3), (0x26, 0xF1), (0x40, 0x91), (0x42, 0x00), (0x43, 0x00)] ++
  [(0x45, 0x00), (0x47, 0xFC), (0x48, 0xFF), (0x49, 0xFF), (0x4A, 0x00), (0x4B, 0x00)]

/-- The default IoSeed of R362: every index the table does not name is 0x00 (D16, log 19). -/
def ioSeed (i : Nat) : Byte := (ioSeedTable.lookup i).getD 0

/-- The default IoSeed as a parameter: `IO[0x00..0x7F]` (R12, R362). -/
def defaultIoSeed : List Byte := (List.range 128).map ioSeed

/-- The defaults of R12. -/
def defaultParams : Params :=
  { costBase := defaultCostBase
    costCB := defaultCostCB
    taken := { jr := 4, jp := 4, call := 12, ret := 12 }
    haltIdleTicks := 4
    haltSkip := false
    shades := defaultShades
    ioSeed := defaultIoSeed }

end Sys2Proof.Machine
end

