-- ==== Sys2Proof/Machine/State.lean ====
section
/-! DEFINITION. The state of the core (10_state.md), grouped by the unit that owns each piece, the two reason types of
an outcome, and the state after reset. -/

namespace Sys2Proof.Machine

/-- The exception of the core (R310 b). RAISED BY the meanings of the eleven undefined opcodes (R306), which RECORD it
in `State.disp.fault` and give a next state, as R130 describes; no step ends in `Host.Outcome.fault` (log 1, safe). -/
inductive Fault where
  | undefinedOpcode (op : Byte) (addr : Word)
  deriving DecidableEq, Repr

/-- Why a step may give no meaning. RAISED BY the arms of `exec` that have no meaning yet: there is none, so no step
refuses (log 1, safe). -/
inductive Refusal where
  | notModelled (mnemonic : String)
  deriving DecidableEq, Repr

/-- The modes of the video unit (R45). -/
inductive PpuMode where
  | oamSearch
  | pixelTransfer
  | hBlank
  | vBlank
  deriving DecidableEq, Repr

/-- The byte arrays of R53, keyed by the bus address of each byte (Machine/Memory.lean has the canonical form). -/
abbrev Memory := List Host.Cell

/-- The frame buffer (R51): the rows that are not all (0,0,0), keyed by row number y, each FB[y][0..159] (log 12). -/
abbrev Frame := List (Nat × List RGB)

/-- The register file (R30, R35, R36). F is read through `State.getF`, which masks its low nibble (R32). -/
structure Regs where
  a : Byte
  f : Byte
  b : Byte
  c : Byte
  d : Byte
  e : Byte
  h : Byte
  l : Byte
  sp : Word
  pc : Word
  deriving DecidableEq, Repr

/-- The interrupt controller: IME, IE and IF (R38, R39, R40). -/
structure Irq where
  ime : Bool
  ie : BitVec 5
  ifr : BitVec 5
  deriving DecidableEq, Repr

/-- The dispatcher: halted, stopped, fault and the tick counter T (R41 to R44). -/
structure Disp where
  halted : Bool
  stopped : Bool
  fault : Option Fault
  ticks : Nat
  deriving DecidableEq, Repr

/-- The video unit (R45 to R48) and its frame buffer (R51). -/
structure Ppu where
  mode : PpuMode
  ly : Byte
  acc : Nat
  seen : Nat
  lcdc : Byte
  scy : Byte
  scx : Byte
  bgp : Byte
  obp0 : Byte
  obp1 : Byte
  frame : Frame
  deriving DecidableEq, Repr

/-- The bus: the DMA register (R49), the joypad latch, bit 1 = bit 5 and bit 0 = bit 4 of the last write (R50), and the
byte arrays (R53). -/
structure BusState where
  dma : Byte
  joysel : BitVec 2
  mem : Memory
  deriving DecidableEq, Repr

/-- THE MODEL'S OWN (log 3): what the host holds the buttons at (`none`: each sample is a free value, R335) and the
number of the next draw. -/
structure HostInput where
  buttons : Option Buttons
  draws : Nat
  deriving DecidableEq, Repr

/-- The whole state of the core. -/
structure State where
  regs : Regs
  irq : Irq
  disp : Disp
  ppu : Ppu
  bus : BusState
  host : HostInput
  params : Params
  deriving DecidableEq, Repr

/-- R58. -/
def Regs.reset : Regs :=
  { a := 0x01, f := 0xB0, b := 0x00, c := 0x13, d := 0x00, e := 0xD8, h := 0x01, l := 0x4D, sp := 0xFFFE, pc := 0x0100 }

/-- R59 (D17, D19, log 20). -/
def Ppu.reset : Ppu :=
  { mode := .oamSearch, ly := 0, acc := 0, seen := 0, lcdc := 0x91, scy := 0, scx := 0, bgp := 0xFC, obp0 := 0xFF,
    obp1 := 0xFF, frame := [] }

/-- The machine after power-on reset (R58, R59, R360) with the default parameters (log 2) and an
empty ROM image, which R363 pads with 0x00 (log 4). -/
def State.reset : State :=
  { regs := Regs.reset
    irq := { ime := false, ie := 0, ifr := 0 }
    disp := { halted := false, stopped := false, fault := none, ticks := 0 }
    ppu := Ppu.reset
    bus := { dma := 0, joysel := 0b11, mem := [] }
    host := { buttons := none, draws := 0 }
    params := defaultParams }

end Sys2Proof.Machine
end

