-- ==== Sys2Proof/Machine/Flags.lean ====
section
/-! DEFINITION. The flags in F (R32 to R34), the Flags line of an instruction (R132), and every result and flag
computation of the instruction families (R170 to R176, R205, R220, R221, R230 to R237). -/

namespace Sys2Proof.Machine

/-! ## F -/

/-- Z = F[7] (R33). -/
def zMask : Byte := 0x80
/-- N = F[6] (R33). -/
def nMask : Byte := 0x40
/-- H = F[5] (R33). -/
def hMask : Byte := 0x20
/-- C = F[4] (R33). -/
def cMask : Byte := 0x10

/-- F as it is read: bits 3-0 are 0 (R32). -/
def State.getF (s : State) : Byte := s.regs.f &&& 0xF0

/-- A write of F stores `v & 0xF0` (R32). -/
def State.setF (s : State) (v : Byte) : State := { s with regs.f := v &&& 0xF0 }

/-- `get_flag(mask)` (R34). -/
def State.getFlag (s : State) (mask : Byte) : Bool := s.regs.f &&& mask != 0

/-- `set_flag(mask, b)` (R34). -/
def State.setFlag (s : State) (mask : Byte) (b : Bool) : State :=
  { s with regs.f := if b then (s.regs.f ||| mask) &&& 0xF0 else (s.regs.f &&& ~~~mask) &&& 0xF0 }

def State.flagZ (s : State) : Bool := s.getFlag zMask
def State.flagN (s : State) : Bool := s.getFlag nMask
def State.flagH (s : State) : Bool := s.getFlag hMask
def State.flagC (s : State) : Bool := s.getFlag cMask

/-- One entry of a Flags line: `none` is `-`, unchanged (R132). -/
def State.flagEntry (s : State) (mask : Byte) : Option Bool → State
  | none => s
  | some b => s.setFlag mask b

/-- A Flags line "Z N H C = …" (R132). -/
def State.flagLine (s : State) (z n h c : Option Bool) : State :=
  (((s.flagEntry zMask z).flagEntry nMask n).flagEntry hMask h).flagEntry cMask c

/-! ## 8-bit arithmetic and logic -/

/-- A result and the four flags of a helper. -/
structure AluResult where
  res : Byte
  z : Bool
  n : Bool
  h : Bool
  c : Bool
  deriving DecidableEq, Repr

/-- `Add8(a, v, cin)` (R170). -/
def add8 (a v : Byte) (cin : Bool) : AluResult :=
  let s := a.toNat + v.toNat + cin.toNat
  let res := BitVec.ofNat 8 s
  { res := res
    z := res == 0
    n := false
    h := decide ((a &&& 0x0F).toNat + (v &&& 0x0F).toNat + cin.toNat > 0x0F)
    c := decide (s > 0xFF) }

/-- `Sub8(a, v, cin)` (R171). -/
def sub8 (a v : Byte) (cin : Bool) : AluResult :=
  let d : Int := (a.toNat : Int) - v.toNat - cin.toNat
  let res := BitVec.ofInt 8 d
  { res := res
    z := res == 0
    n := true
    h := decide ((a &&& 0x0F).toNat < (v &&& 0x0F).toNat + cin.toNat)
    c := decide (a.toNat < v.toNat + cin.toNat) }

/-- `And8` (R172). -/
def and8 (a v : Byte) : AluResult :=
  let res := a &&& v
  { res := res, z := res == 0, n := false, h := true, c := false }

/-- `Xor8` (R173). -/
def xor8 (a v : Byte) : AluResult :=
  let res := a ^^^ v
  { res := res, z := res == 0, n := false, h := false, c := false }

/-- `Or8` (R174). -/
def or8 (a v : Byte) : AluResult :=
  let res := a ||| v
  { res := res, z := res == 0, n := false, h := false, c := false }

/-- The ALU operation of a code on A, an operand and the carry flag before the instruction (R177 to R200). -/
def aluResult (op : AluOp) (a v : Byte) (c : Bool) : AluResult :=
  match op with
  | .add => add8 a v false
  | .adc => add8 a v c
  | .sub => sub8 a v false
  | .sbc => sub8 a v c
  | .and => and8 a v
  | .xor => xor8 a v
  | .or => or8 a v
  | .cp => sub8 a v false

/-- Whether the operation writes A: CP writes only F (R198). -/
def writesA : AluOp → Bool
  | .add | .adc | .sub | .sbc | .and | .xor | .or => true
  | .cp => false

/-- `Inc8(v)` and its H (R175). -/
def inc8 (v : Byte) : Byte := BitVec.ofNat 8 (v.toNat + 1)
def inc8H (v : Byte) : Bool := v &&& 0x0F == 0x0F

/-- `Dec8(v)` and its H (R176). -/
def dec8 (v : Byte) : Byte := BitVec.ofInt 8 ((v.toNat : Int) - 1)
def dec8H (v : Byte) : Bool := v &&& 0x0F == 0x00

/-- DAA on A, N, H, C: the new A and the new C (R205). -/
def daaResult (a : Byte) (n h c : Bool) : Byte × Bool :=
  if n then
    let adj : Byte := (if h then 0x06 else 0) ||| (if c then 0x60 else 0)
    (BitVec.ofInt 8 ((a.toNat : Int) - adj.toNat), c)
  else
    let low := h || decide ((a &&& 0x0F).toNat > 0x09)
    let high := c || decide (a.toNat > 0x99)
    let adj : Byte := (if low then 0x06 else 0) ||| (if high then 0x60 else 0)
    (BitVec.ofNat 8 (a.toNat + adj.toNat), high)

/-! ## 16-bit arithmetic -/

/-- `Add16(a, v)`: the sum, H out of bit 11 and C out of bit 15 (R220). -/
def add16 (a v : Word) : Word := BitVec.ofNat 16 (a.toNat + v.toNat)
def add16H (a v : Word) : Bool := decide ((a &&& 0x0FFF).toNat + (v &&& 0x0FFF).toNat > 0x0FFF)
def add16C (a v : Word) : Bool := decide (a.toNat + v.toNat > 0xFFFF)

/-- `AddSP(sp, e)`: the signed sum, H and C of the unsigned low-byte addition (R221). -/
def addSP (sp : Word) (e : Byte) : Word := BitVec.ofNat 16 (sp.toNat + (sext16 e).toNat)
def addSPH (sp : Word) (e : Byte) : Bool := decide ((sp &&& 0x0F).toNat + (e &&& 0x0F).toNat > 0x0F)
def addSPC (sp : Word) (e : Byte) : Bool := decide ((sp &&& 0xFF).toNat + e.toNat > 0xFF)

/-! ## Rotates and shifts: result and bit shifted out -/

/-- A bit as a byte. -/
def bitByte (b : Bool) : Byte := if b then 1 else 0

/-- R230. -/
def rlc8 (v : Byte) : Byte × Bool := let cout := v.getLsbD 7; ((v <<< 1) ||| bitByte cout, cout)
/-- R231. -/
def rrc8 (v : Byte) : Byte × Bool := let cout := v.getLsbD 0; ((v >>> 1) ||| (bitByte cout <<< 7), cout)
/-- R232. -/
def rl8 (v : Byte) (c : Bool) : Byte × Bool := ((v <<< 1) ||| bitByte c, v.getLsbD 7)
/-- R233. -/
def rr8 (v : Byte) (c : Bool) : Byte × Bool := ((v >>> 1) ||| (bitByte c <<< 7), v.getLsbD 0)
/-- R234. -/
def sla8 (v : Byte) : Byte × Bool := (v <<< 1, v.getLsbD 7)
/-- R235. -/
def sra8 (v : Byte) : Byte × Bool := ((v >>> 1) ||| (v &&& 0x80), v.getLsbD 0)
/-- R236. -/
def srl8 (v : Byte) : Byte × Bool := (v >>> 1, v.getLsbD 0)
/-- R237. -/
def swap8 (v : Byte) : Byte × Bool := (((v &&& 0x0F) <<< 4) ||| (v >>> 4), false)

/-- The helper of a rotate or shift code, with the carry flag before the instruction (R107, R230 to R237). -/
def shiftResult (op : ShiftOp) (v : Byte) (c : Bool) : Byte × Bool :=
  match op with
  | .rlc => rlc8 v
  | .rrc => rrc8 v
  | .rl => rl8 v c
  | .rr => rr8 v c
  | .sla => sla8 v
  | .sra => sra8 v
  | .swap => swap8 v
  | .srl => srl8 v

/-- Bit b of a byte, as a number. -/
def bitIndex (b : BitNo) : Nat := b.code.toNat

/-- `v[b]` (R266). -/
def testBit8 (b : BitNo) (v : Byte) : Bool := v.getLsbD (bitIndex b)
/-- `v & ~(1 << b)` (R268). -/
def clearBit8 (b : BitNo) (v : Byte) : Byte := v &&& ~~~((1 : Byte) <<< bitIndex b)
/-- `v | (1 << b)` (R270). -/
def setBit8 (b : BitNo) (v : Byte) : Byte := v ||| ((1 : Byte) <<< bitIndex b)

/-! ## Conditions -/

/-- `Cond(cc)` on F as it is (R280). -/
def State.cond (s : State) : Cond → Bool
  | .NZ => !s.flagZ
  | .Z => s.flagZ
  | .NC => !s.flagC
  | .C => s.flagC

end Sys2Proof.Machine
end

