-- ==== Sys2Proof/Machine/Memory.lean ====
section
/-! DEFINITION. Sparse arrays in one canonical form, and the two of the core: the bus memory and the frame buffer.
An array is a list of (key, value) with keys strictly rising and no value equal to what an unlisted key reads as. -/

namespace Sys2Proof.Machine

/-- The value at `k`; an unlisted key reads `dflt k`. -/
def Sparse.get {α : Type} (dflt : Nat → α) : List (Nat × α) → Nat → α
  | [], k => dflt k
  | (k', v) :: rest, k => if k = k' then v else Sparse.get dflt rest k

/-- The entry for `k` in front of a list of greater keys, unless it is what an unlisted key reads as. -/
def Sparse.put {α : Type} [DecidableEq α] (dflt : Nat → α) (k : Nat) (v : α) (rest : List (Nat × α)) : List (Nat × α) :=
  if v = dflt k then rest else (k, v) :: rest

/-- `m` with `v` at `k`, in canonical form. -/
def Sparse.set {α : Type} [DecidableEq α] (dflt : Nat → α) : List (Nat × α) → Nat → α → List (Nat × α)
  | [], k, v => Sparse.put dflt k v []
  | (k', v') :: rest, k, v =>
    if k < k' then Sparse.put dflt k v ((k', v') :: rest)
    else if k = k' then Sparse.put dflt k v rest
    else (k', v') :: Sparse.set dflt rest k v

/-- The canonical form. -/
abbrev Sparse.wf {α : Type} (dflt : Nat → α) (m : List (Nat × α)) : Prop :=
  m.Pairwise (fun p q => p.1 < q.1) ∧ ∀ p ∈ m, p.2 ≠ dflt p.1

/-- What an unlisted address reads as: the reset contents of R53 under the default parameters, which are the default IoSeed
in the I/O block (R362) and 0x00 elsewhere (ROM included: an image byte that is not loaded is 0x00, R363). A core with
another IoSeed lists the bytes that differ (`seedIo`, log 11). -/
def Memory.unlisted (k : Nat) : Byte :=
  if 0xFF00 ≤ k ∧ k < 0xFF80 then ioSeed (k - 0xFF00) else 0

/-- The byte stored under key `k`. -/
def Memory.read (m : Memory) (k : Nat) : Byte := Sparse.get Memory.unlisted m k

/-- `m` with `v` stored under key `k`. -/
def Memory.write (m : Memory) (k : Nat) (v : Byte) : Memory := Sparse.set Memory.unlisted m k v

/-- The canonical form of the memory: sorted, no entry equal to the unlisted value, every key a bus address. -/
abbrev Memory.wf (m : Memory) : Prop :=
  Sparse.wf Memory.unlisted m ∧ ∀ p ∈ m, p.1 < 0x10000

/-- A row of 160 pixels (0,0,0) (R51). -/
def Frame.blackRow : List RGB := List.replicate 160 ⟨0, 0, 0⟩

/-- FB[y]. -/
def Frame.row (fb : Frame) (y : Nat) : List RGB := Sparse.get (fun _ => Frame.blackRow) fb y

/-- `fb` with FB[y] := row. -/
def Frame.setRow (fb : Frame) (y : Nat) (row : List RGB) : Frame := Sparse.set (fun _ => Frame.blackRow) fb y row

/-- FB[y][x] (R51). -/
def Frame.pixel (fb : Frame) (y x : Nat) : RGB := (fb.row y).getD x ⟨0, 0, 0⟩

/-- The canonical form of the frame buffer: 144 rows of 160 pixels. -/
abbrev Frame.wf (fb : Frame) : Prop :=
  Sparse.wf (fun _ => Frame.blackRow) fb ∧ ∀ p ∈ fb, p.1 < 144 ∧ p.2.length = 160

end Sys2Proof.Machine
end

