-- ==== Sys2Proof/Machine/Ops.lean ====
section
/-! DEFINITION. The named operations over the bus, the stack and the dispatcher's state: the bus decoder with its side
effects (20_memory.md), tick accounting, taking the one exception and an interrupt, returning from an interrupt, and
the host's ROM load and reset. -/

namespace Sys2Proof.Machine

/-! ## The bus decoder -/

/-- The special registers of R72. -/
inductive Special where
  | p1
  | intFlag
  | lcdc
  | scy
  | scx
  | ly
  | dma
  | bgp
  | obp0
  | obp1
  | intEnable
  deriving DecidableEq, Repr

/-- The regions of the decode table R61. -/
inductive Region where
  | rom
  | vram
  | eram
  | wram
  | echo
  | oam
  | hram
  | special (r : Special)
  | io
  deriving DecidableEq, Repr

/-- R72 (log 13). -/
def specialTable : List (Nat × Special) :=
  [(0xFF00, .p1), (0xFF0F, .intFlag), (0xFF40, .lcdc), (0xFF42, .scy), (0xFF43, .scx), (0xFF44, .ly), (0xFF46, .dma),
   (0xFF47, .bgp), (0xFF48, .obp0), (0xFF49, .obp1), (0xFFFF, .intEnable)]

/-- The region of an address: every address has one (R60, R61; log 13). -/
def regionOf (a : Word) : Region :=
  let n := a.toNat
  if n < 0x8000 then .rom
  else if n < 0xA000 then .vram
  else if n < 0xC000 then .eram
  else if n < 0xE000 then .wram
  else if n < 0xFE00 then .echo
  else if n < 0xFF00 then .oam
  else
    match specialTable.lookup n with
    | some r => .special r
    | none => if n < 0xFF80 then .io else .hram

/-- The key of the byte an address of a storage region names: the address, and the working RAM's for its echo (R69). -/
def storageKey (a : Word) : Nat :=
  match regionOf a with
  | .echo => a.toNat - 0x2000
  | .rom | .vram | .eram | .wram | .oam | .hram | .io | .special _ => a.toNat

/-- The byte stored under a key. -/
def State.cell (s : State) (k : Nat) : Byte := s.bus.mem.read k

/-- `s` with `v` stored under a key. -/
def State.setCell (s : State) (k : Nat) (v : Byte) : State := { s with bus.mem := s.bus.mem.write k v }

/-! ## The joypad -/

/-- The buttons an access of one kind sees: what the host holds them at, else a free value (R335, log 3). -/
def State.sampleButtons (s : State) (k : Access) : Buttons :=
  match s.host.buttons with
  | some b => b
  | none => Config.buttons s.host.draws k

/-- A nibble with `b0` in bit 0. -/
def nibble (b0 b1 b2 b3 : Bool) : Byte :=
  bitByte b0 ||| (bitByte b1 <<< 1) ||| (bitByte b2 <<< 2) ||| (bitByte b3 <<< 3)

/-- The value of P1 by the selection latch and the buttons (R77, log 18). -/
def joypadByte (sel : BitVec 2) (b : Buttons) : Byte :=
  if sel = 0b10 then 0xC0 ||| 0x20 ||| (~~~(nibble b.right b.left b.up b.down) &&& 0x0F)
  else if sel = 0b01 then 0xC0 ||| 0x10 ||| (~~~(nibble b.a b.b b.select b.start) &&& 0x0F)
  else 0xFF

/-! ## Byte accesses -/

/-- The read of a special register (R72). -/
def State.readSpecial (k : Access) (s : State) : Special → Byte
  | .p1 => joypadByte s.bus.joysel (s.sampleButtons k)
  | .intFlag => s.irq.ifr.setWidth 8
  | .lcdc => s.ppu.lcdc
  | .scy => s.ppu.scy
  | .scx => s.ppu.scx
  | .ly => s.ppu.ly
  | .dma => s.bus.dma
  | .bgp => s.ppu.bgp
  | .obp0 => s.ppu.obp0
  | .obp1 => s.ppu.obp1
  | .intEnable => s.irq.ie.setWidth 8

/-- `read_byte(a)` (R61). It changes no state (R85); `k` tells the free value of a joypad read which read it is. -/
def State.readByte (k : Access) (s : State) (a : Word) : Byte :=
  match regionOf a with
  | .special r => s.readSpecial k r
  | .rom | .vram | .eram | .wram | .echo | .oam | .hram | .io => s.cell (storageKey a)

/-- One byte of the OAM copy: OAM[i] <- read_byte((v << 8) + i) (R74). -/
def dmaByte (v : Byte) (s : State) (i : Nat) : State :=
  s.setCell (0xFE00 + i) (s.readByte .dma (cat v 0 + BitVec.ofNat 16 i))

/-- The write of 0xFF46: DMA <- v, then 160 bytes into OAM, ascending, inside the write (R74). -/
def State.oamDma (s : State) (v : Byte) : State :=
  (List.range 160).foldl (dmaByte v) { s with bus.dma := v }

/-- The write of a special register (R72). -/
def State.writeSpecial (s : State) (r : Special) (v : Byte) : State :=
  match r with
  | .p1 => { s with bus.joysel := v.extractLsb' 4 2 }
  | .intFlag => { s with irq.ifr := v.setWidth 5 }
  | .lcdc => { s with ppu.lcdc := v }
  | .scy => { s with ppu.scy := v }
  | .scx => { s with ppu.scx := v }
  | .ly => s
  | .dma => s.oamDma v
  | .bgp => { s with ppu.bgp := v }
  | .obp0 => { s with ppu.obp0 := v }
  | .obp1 => { s with ppu.obp1 := v }
  | .intEnable => { s with irq.ie := v.setWidth 5 }

/-- `write_byte(a, v)` (R61): a write to ROM changes nothing (R63). -/
def State.writeByte (s : State) (a : Word) (v : Byte) : State :=
  match regionOf a with
  | .rom => s
  | .special r => s.writeSpecial r v
  | .vram | .eram | .wram | .echo | .oam | .hram | .io => s.setCell (storageKey a) v

/-! ## 16-bit accesses and the stack -/

/-- `read_short(a)` (R80). -/
def State.readShort (k : Access) (s : State) (a : Word) : Word := cat (s.readByte k (a + 1)) (s.readByte k a)

/-- `write_short(a, v)`: the low byte at a first, then the high byte at a + 1 (R80). -/
def State.writeShort (s : State) (a v : Word) : State := (s.writeByte a (loByte v)).writeByte (a + 1) (hiByte v)

/-- SP <- v. -/
def State.setSP (s : State) (v : Word) : State := { s with regs.sp := v }

/-- PC <- v. -/
def State.setPC (s : State) (v : Word) : State := { s with regs.pc := v }

/-- `Push(v)` (R81). -/
def State.push (s : State) (v : Word) : State := (s.setSP (s.regs.sp - 2)).writeShort (s.regs.sp - 2) v

/-- The value `Pop()` returns (R81). -/
def State.top (s : State) : Word := s.readShort .data s.regs.sp

/-- What `Pop()` leaves (R81). -/
def State.dropTop (s : State) : State := s.setSP (s.regs.sp + 2)

/-! ## Ticks -/

/-- `T <- T + n` (R19, R44). -/
def State.spend (s : State) (n : Nat) : State := { s with disp.ticks := s.disp.ticks + n }

/-- CostBase(op) (R127). -/
def State.costBase (s : State) (op : Byte) : Nat := s.params.costBase.getD op.toNat 0

/-- CostCB(op2) (R128). -/
def State.costCB (s : State) (op2 : Byte) : Nat := s.params.costCB.getD op2.toNat 0

/-- The ticks of a base entry without extra: `T <- T + CostBase(op)` (R127; charged by the meaning, log 10). -/
def State.spendBase (s : State) (op : Byte) : State := s.spend (s.costBase op)

/-- The ticks of an extended entry: the escape's share and the entry's own (R128). -/
def State.spendExtended (s : State) (op2 : Byte) : State := s.spend (s.costBase 0xCB + s.costCB op2)

/-! ## Taking an exception, taking an interrupt, and returning -/

/-- What a meaning answers. -/
abbrev Result := Host.Outcome State Fault Refusal

/-- `PC <- trunc_16(PC - 1); raise UndefinedOpcode(op, PC)` (R306): the fault is recorded with PC at the undefined byte,
no ticks are added, and every later core step does nothing (R130; log 1). -/
def State.raiseUndefined (s : State) (op : Byte) : State :=
  { s with regs.pc := s.regs.pc - 1, disp.fault := some (.undefinedOpcode op (s.regs.pc - 1)) }

/-- The interrupt sources of R311, in priority order (log 37). -/
inductive IntSource where
  | vblank
  | lcdStat
  | timer
  | serial
  | joypad
  deriving DecidableEq, Repr

/-- The bit of IE and IF (R311). -/
def IntSource.bit : IntSource → Nat
  | .vblank => 0
  | .lcdStat => 1
  | .timer => 2
  | .serial => 3
  | .joypad => 4

/-- The vector, 0x0040 + 8 i (R311, R315). -/
def IntSource.vector : IntSource → Word
  | .vblank => 0x0040
  | .lcdStat => 0x0048
  | .timer => 0x0050
  | .serial => 0x0058
  | .joypad => 0x0060

/-- The fixed priority order (R311, R314). -/
def IntSource.all : List IntSource := [.vblank, .lcdStat, .timer, .serial, .joypad]

/-- `IE & IF`. -/
def State.enabledPending (s : State) : BitVec 5 := s.irq.ie &&& s.irq.ifr

/-- `Pending()`: it does not depend on IME (R312). -/
def State.pending (s : State) : Bool := s.enabledPending != 0

/-- The cost of an interrupt dispatch (R315). -/
def dispatchCost : Nat := 12

/-- TAKING AN INTERRUPT. `Dispatch(i)` of R315, in its order: the source's IF bit and IME are cleared, a wait ends, PC is
pushed, PC becomes the vector, T + 12. No other register is saved and F stands. (The draw number steps on, so that a
button sample of the push has its own free value, log 3.) -/
def State.takeInterrupt (s : State) (i : IntSource) : State :=
  let s1 := { s with
    irq.ifr := s.irq.ifr &&& ~~~((1 : BitVec 5) <<< i.bit)
    irq.ime := false
    disp.halted := false
    disp.stopped := false
    host.draws := s.host.draws + 1 }
  ((s1.push s1.regs.pc).setPC i.vector).spend dispatchCost

/-- RETURNING FROM AN INTERRUPT. `return_from_interrupt()` of R290: IME <- 1, then PC <- Pop(). -/
def State.returnFromInterrupt (s : State) : State :=
  let s1 := { s with irq.ime := true }
  s1.dropTop.setPC s1.top

/-- The source that is served: the first in priority order whose bit is set in both masks (R313, R314). -/
def State.chosenSource (s : State) : Option IntSource :=
  IntSource.all.find? (fun i => s.enabledPending.getLsbD i.bit)

/-- `InterruptStep()` of R313: nothing unless IME, IE and IF are all non-zero; at most one dispatch. -/
def State.interruptStep (s : State) : State :=
  if !s.irq.ime || s.irq.ie == 0 || s.irq.ifr == 0 then s
  else
    match s.chosenSource with
    | some i => s.takeInterrupt i
    | none => s

/-! ## The host -/

/-- The memory of a loaded image: image byte i at ROM address i (R62, R363). -/
def romOf (image : List Byte) : Memory :=
  image.zipIdx.foldl (fun m p => m.write p.2 p.1) []

/-- The reachable indices of the generic I/O block: those of 0x00 to 0x7F that no special register shadows (R54, R79). -/
def ioIndices : List Nat := (List.range 128).filter (fun i => regionOf (BitVec.ofNat 16 (0xFF00 + i)) = .io)

/-- `m` with the I/O block seeded from the parameter IoSeed (R12, R362). -/
def seedIo (p : Params) (m : Memory) : Memory :=
  ioIndices.foldl (fun m i => m.write (0xFF00 + i) (p.ioSeed.getD i 0)) m

/-- The core after power-on with given parameters, whose ROM is what `rom` holds (R360). Under the default parameters and
an empty image it is `State.reset`. -/
def powerOn (p : Params) (rom : Memory) : State :=
  { State.reset with bus.mem := seedIo p rom, params := p }

/-- The core right after power-on with an image, or no core where the image does not fit 32 KiB (R363; which mapper
types are recognised is the loader's own, log 40). -/
def loadRom (p : Params) (image : List Byte) : Option State :=
  if image.length ≤ 32768 then some (powerOn p (romOf image)) else none

/-- A user reset: everything but ROM returns to its power-on value, the I/O block re-seeded (R361). The parameters and the
host's input are no state of the core and stand (log 39). -/
def State.userReset (s : State) : State :=
  { powerOn s.params (s.bus.mem.filter (fun p => p.1 < 0x8000)) with host := s.host }

end Sys2Proof.Machine
end

