-- ==== Sys2Proof/Machine/Operands.lean ====
section
/-! DEFINITION. The operand forms: registers, pairs, the byte at HL, memory through a register or an immediate
(30_encoding.md R103, R104, R109, R117; 10_state.md R30, R31). -/

namespace Sys2Proof.Machine

/-- `x[r]` (R16, R30). -/
def State.getR (s : State) : Reg8 → Byte
  | .B => s.regs.b
  | .C => s.regs.c
  | .D => s.regs.d
  | .E => s.regs.e
  | .H => s.regs.h
  | .L => s.regs.l
  | .A => s.regs.a

/-- `x[r] <- v` (R16, R30). -/
def State.setR (s : State) (r : Reg8) (v : Byte) : State :=
  match r with
  | .B => { s with regs.b := v }
  | .C => { s with regs.c := v }
  | .D => { s with regs.d := v }
  | .E => { s with regs.e := v }
  | .H => { s with regs.h := v }
  | .L => { s with regs.l := v }
  | .A => { s with regs.a := v }

/-- BC, DE, HL, AF: the first register is the high byte (R31); F reads with its low nibble 0 (R32). -/
def State.getBC (s : State) : Word := cat s.regs.b s.regs.c
def State.getDE (s : State) : Word := cat s.regs.d s.regs.e
def State.getHL (s : State) : Word := cat s.regs.h s.regs.l
def State.getAF (s : State) : Word := cat s.regs.a s.getF

/-- Writing a pair writes both halves (R31). -/
def State.setBC (s : State) (v : Word) : State := { s with regs.b := hiByte v, regs.c := loByte v }
def State.setDE (s : State) (v : Word) : State := { s with regs.d := hiByte v, regs.e := loByte v }
def State.setHL (s : State) (v : Word) : State := { s with regs.h := hiByte v, regs.l := loByte v }

/-- `AF <- v`: the low nibble of F is masked (R31, R32). -/
def State.setAF (s : State) (v : Word) : State := { s with regs.a := hiByte v, regs.f := loByte v &&& 0xF0 }

/-- `x[rr]` by pair code (R104). -/
def State.getPair (s : State) : Pair → Word
  | .BC => s.getBC
  | .DE => s.getDE
  | .HL => s.getHL
  | .SP => s.regs.sp

/-- `x[rr] <- v` by pair code (R104). -/
def State.setPair (s : State) (p : Pair) (v : Word) : State :=
  match p with
  | .BC => s.setBC v
  | .DE => s.setDE v
  | .HL => s.setHL v
  | .SP => s.setSP v

/-- `x[rr2]` by stack pair code (R104). -/
def State.getStackPair (s : State) : StackPair → Word
  | .BC => s.getBC
  | .DE => s.getDE
  | .HL => s.getHL
  | .AF => s.getAF

/-- `x[rr2] <- v` by stack pair code (R104). -/
def State.setStackPair (s : State) (p : StackPair) (v : Word) : State :=
  match p with
  | .BC => s.setBC v
  | .DE => s.setDE v
  | .HL => s.setHL v
  | .AF => s.setAF v

/-- `MemRead(HL, 1)` (R103). -/
def State.readHL (s : State) : Byte := s.readByte .data s.getHL

/-- `MemWrite(HL, 1, v)` (R103). -/
def State.writeHL (s : State) (v : Byte) : State := s.writeByte s.getHL v

/-- `reg8(z)` (R103). -/
def State.readOpnd (s : State) : Opnd8 → Byte
  | .reg r => s.getR r
  | .mHL => s.readHL

/-- `reg8(z) <- v` (R103). -/
def State.writeOpnd (s : State) (o : Opnd8) (v : Byte) : State :=
  match o with
  | .reg r => s.setR r v
  | .mHL => s.writeHL v

end Sys2Proof.Machine
end

