-- ==== Sys2Proof/Machine/Alu16.lean ====
section
/-! DEFINITION. 16-bit arithmetic (44_alu16.md, R222 to R226). -/

namespace Sys2Proof.Machine

/-- `ADD HL,rr` (R222). -/
def addHLPair (op : Byte) (p : Pair) (s : State) : State :=
  let v := s.getPair p
  ((s.setHL (add16 s.getHL v)).flagLine none (some false) (some (add16H s.getHL v)) (some (add16C s.getHL v))).spendBase op

/-- `INC rr`: no flag (R223). -/
def incPair (op : Byte) (p : Pair) (s : State) : State := (s.setPair p (s.getPair p + 1)).spendBase op

/-- `DEC rr`: no flag (R224). -/
def decPair (op : Byte) (p : Pair) (s : State) : State := (s.setPair p (s.getPair p - 1)).spendBase op

/-- The flags of `AddSP(sp, e)`: 0, 0, H, C (R221). -/
def addSPFlags (sp : Word) (e : Byte) (s : State) : State :=
  s.flagLine (some false) (some false) (some (addSPH sp e)) (some (addSPC sp e))

/-- `ADD SP,e8` (R225). -/
def addSPImm (op : Byte) (e : Byte) (s : State) : State :=
  (addSPFlags s.regs.sp e (s.setSP (addSP s.regs.sp e))).spendBase op

/-- `LD HL,SP+e8` (R226). -/
def ldHLSP (op : Byte) (e : Byte) (s : State) : State :=
  (addSPFlags s.regs.sp e (s.setHL (addSP s.regs.sp e))).spendBase op

/-! ### R222 -/

def execAdd_HL_BC (s : State) : Result := .next (addHLPair 0x09 .BC s)
def execAdd_HL_DE (s : State) : Result := .next (addHLPair 0x19 .DE s)
def execAdd_HL_HL (s : State) : Result := .next (addHLPair 0x29 .HL s)
def execAdd_HL_SP (s : State) : Result := .next (addHLPair 0x39 .SP s)

/-! ### R223 -/

def execInc_BC (s : State) : Result := .next (incPair 0x03 .BC s)
def execInc_DE (s : State) : Result := .next (incPair 0x13 .DE s)
def execInc_HL (s : State) : Result := .next (incPair 0x23 .HL s)
def execInc_SP (s : State) : Result := .next (incPair 0x33 .SP s)

/-! ### R224 -/

def execDec_BC (s : State) : Result := .next (decPair 0x0B .BC s)
def execDec_DE (s : State) : Result := .next (decPair 0x1B .DE s)
def execDec_HL (s : State) : Result := .next (decPair 0x2B .HL s)
def execDec_SP (s : State) : Result := .next (decPair 0x3B .SP s)

/-! ### R225 -/

def execAdd_SP_e8 (e : Byte) (s : State) : Result := .next (addSPImm 0xE8 e s)

/-! ### R226 -/

def execLd_HL_SPe8 (e : Byte) (s : State) : Result := .next (ldHLSP 0xF8 e s)

end Sys2Proof.Machine
end

