-- ==== Sys2Proof/Machine/Alu8.lean ====
section
/-! DEFINITION. 8-bit arithmetic and logic (43_alu8.md, R177 to R208). -/

namespace Sys2Proof.Machine

/-- The ALU operation on A and a value: A (but for CP) and the four flags (R177 to R200). -/
def applyAlu (o : AluOp) (v : Byte) (s : State) : State :=
  let r := aluResult o s.regs.a v s.flagC
  let s1 := if writesA o then s.setR .A r.res else s
  s1.flagLine (some r.z) (some r.n) (some r.h) (some r.c)

/-- On a register (R177, R180, R183, R186, R189, R192, R195, R198). -/
def aluReg (op : Byte) (o : AluOp) (r : Reg8) (s : State) : State := (applyAlu o (s.getR r) s).spendBase op

/-- On the byte at HL (R178, R181, R184, R187, R190, R193, R196, R199). -/
def aluMem (op : Byte) (o : AluOp) (s : State) : State := (applyAlu o s.readHL s).spendBase op

/-- On an immediate (R179, R182, R185, R188, R191, R194, R197, R200). -/
def aluImm (op : Byte) (o : AluOp) (n : Byte) (s : State) : State := (applyAlu o n s).spendBase op

/-- Z, 0, H, - of an increment of v (R175). -/
def incFlags (v : Byte) (s : State) : State := s.flagLine (some (inc8 v == 0)) (some false) (some (inc8H v)) none

/-- Z, 1, H, - of a decrement of v (R176). -/
def decFlags (v : Byte) (s : State) : State := s.flagLine (some (dec8 v == 0)) (some true) (some (dec8H v)) none

/-- `INC r` (R201). -/
def incReg (op : Byte) (r : Reg8) (s : State) : State :=
  (incFlags (s.getR r) (s.setR r (inc8 (s.getR r)))).spendBase op

/-- `INC (HL)`: a read, then a write of the same address (R202). -/
def incMem (op : Byte) (s : State) : State := (incFlags s.readHL (s.writeHL (inc8 s.readHL))).spendBase op

/-- `DEC r` (R203). -/
def decReg (op : Byte) (r : Reg8) (s : State) : State :=
  (decFlags (s.getR r) (s.setR r (dec8 (s.getR r)))).spendBase op

/-- `DEC (HL)`: a read, then a write of the same address (R204). -/
def decMem (op : Byte) (s : State) : State := (decFlags s.readHL (s.writeHL (dec8 s.readHL))).spendBase op

/-- `DAA` (R205). -/
def decimalAdjust (op : Byte) (s : State) : State :=
  let (a, c) := daaResult s.regs.a s.flagN s.flagH s.flagC
  ((s.setR .A a).flagLine (some (a == 0)) none (some false) (some c)).spendBase op

/-- `CPL` (R206). -/
def complementA (op : Byte) (s : State) : State :=
  ((s.setR .A (~~~s.regs.a)).flagLine none (some true) (some true) none).spendBase op

/-- `SCF` (R207). -/
def setCarry (op : Byte) (s : State) : State := (s.flagLine none (some false) (some false) (some true)).spendBase op

/-- `CCF` (R208). -/
def complementCarry (op : Byte) (s : State) : State :=
  (s.flagLine none (some false) (some false) (some !s.flagC)).spendBase op

/-! ### R177 -/

def execAdd_A_B (s : State) : Result := .next (aluReg 0x80 .add .B s)
def execAdd_A_C (s : State) : Result := .next (aluReg 0x81 .add .C s)
def execAdd_A_D (s : State) : Result := .next (aluReg 0x82 .add .D s)
def execAdd_A_E (s : State) : Result := .next (aluReg 0x83 .add .E s)
def execAdd_A_H (s : State) : Result := .next (aluReg 0x84 .add .H s)
def execAdd_A_L (s : State) : Result := .next (aluReg 0x85 .add .L s)
def execAdd_A_A (s : State) : Result := .next (aluReg 0x87 .add .A s)

/-! ### R178 -/

def execAdd_A_mHL (s : State) : Result := .next (aluMem 0x86 .add s)

/-! ### R179 -/

def execAdd_A_n8 (n : Byte) (s : State) : Result := .next (aluImm 0xC6 .add n s)

/-! ### R180 -/

def execAdc_A_B (s : State) : Result := .next (aluReg 0x88 .adc .B s)
def execAdc_A_C (s : State) : Result := .next (aluReg 0x89 .adc .C s)
def execAdc_A_D (s : State) : Result := .next (aluReg 0x8A .adc .D s)
def execAdc_A_E (s : State) : Result := .next (aluReg 0x8B .adc .E s)
def execAdc_A_H (s : State) : Result := .next (aluReg 0x8C .adc .H s)
def execAdc_A_L (s : State) : Result := .next (aluReg 0x8D .adc .L s)
def execAdc_A_A (s : State) : Result := .next (aluReg 0x8F .adc .A s)

/-! ### R181 -/

def execAdc_A_mHL (s : State) : Result := .next (aluMem 0x8E .adc s)

/-! ### R182 -/

def execAdc_A_n8 (n : Byte) (s : State) : Result := .next (aluImm 0xCE .adc n s)

/-! ### R183 -/

def execSub_B (s : State) : Result := .next (aluReg 0x90 .sub .B s)
def execSub_C (s : State) : Result := .next (aluReg 0x91 .sub .C s)
def execSub_D (s : State) : Result := .next (aluReg 0x92 .sub .D s)
def execSub_E (s : State) : Result := .next (aluReg 0x93 .sub .E s)
def execSub_H (s : State) : Result := .next (aluReg 0x94 .sub .H s)
def execSub_L (s : State) : Result := .next (aluReg 0x95 .sub .L s)
def execSub_A (s : State) : Result := .next (aluReg 0x97 .sub .A s)

/-! ### R184 -/

def execSub_mHL (s : State) : Result := .next (aluMem 0x96 .sub s)

/-! ### R185 -/

def execSub_n8 (n : Byte) (s : State) : Result := .next (aluImm 0xD6 .sub n s)

/-! ### R186 -/

def execSbc_A_B (s : State) : Result := .next (aluReg 0x98 .sbc .B s)
def execSbc_A_C (s : State) : Result := .next (aluReg 0x99 .sbc .C s)
def execSbc_A_D (s : State) : Result := .next (aluReg 0x9A .sbc .D s)
def execSbc_A_E (s : State) : Result := .next (aluReg 0x9B .sbc .E s)
def execSbc_A_H (s : State) : Result := .next (aluReg 0x9C .sbc .H s)
def execSbc_A_L (s : State) : Result := .next (aluReg 0x9D .sbc .L s)
def execSbc_A_A (s : State) : Result := .next (aluReg 0x9F .sbc .A s)

/-! ### R187 -/

def execSbc_A_mHL (s : State) : Result := .next (aluMem 0x9E .sbc s)

/-! ### R188 -/

def execSbc_A_n8 (n : Byte) (s : State) : Result := .next (aluImm 0xDE .sbc n s)

/-! ### R189 -/

def execAnd_B (s : State) : Result := .next (aluReg 0xA0 .and .B s)
def execAnd_C (s : State) : Result := .next (aluReg 0xA1 .and .C s)
def execAnd_D (s : State) : Result := .next (aluReg 0xA2 .and .D s)
def execAnd_E (s : State) : Result := .next (aluReg 0xA3 .and .E s)
def execAnd_H (s : State) : Result := .next (aluReg 0xA4 .and .H s)
def execAnd_L (s : State) : Result := .next (aluReg 0xA5 .and .L s)
def execAnd_A (s : State) : Result := .next (aluReg 0xA7 .and .A s)

/-! ### R190 -/

def execAnd_mHL (s : State) : Result := .next (aluMem 0xA6 .and s)

/-! ### R191 -/

def execAnd_n8 (n : Byte) (s : State) : Result := .next (aluImm 0xE6 .and n s)

/-! ### R192 -/

def execXor_B (s : State) : Result := .next (aluReg 0xA8 .xor .B s)
def execXor_C (s : State) : Result := .next (aluReg 0xA9 .xor .C s)
def execXor_D (s : State) : Result := .next (aluReg 0xAA .xor .D s)
def execXor_E (s : State) : Result := .next (aluReg 0xAB .xor .E s)
def execXor_H (s : State) : Result := .next (aluReg 0xAC .xor .H s)
def execXor_L (s : State) : Result := .next (aluReg 0xAD .xor .L s)
def execXor_A (s : State) : Result := .next (aluReg 0xAF .xor .A s)

/-! ### R193 -/

def execXor_mHL (s : State) : Result := .next (aluMem 0xAE .xor s)

/-! ### R194 -/

def execXor_n8 (n : Byte) (s : State) : Result := .next (aluImm 0xEE .xor n s)

/-! ### R195 -/

def execOr_B (s : State) : Result := .next (aluReg 0xB0 .or .B s)
def execOr_C (s : State) : Result := .next (aluReg 0xB1 .or .C s)
def execOr_D (s : State) : Result := .next (aluReg 0xB2 .or .D s)
def execOr_E (s : State) : Result := .next (aluReg 0xB3 .or .E s)
def execOr_H (s : State) : Result := .next (aluReg 0xB4 .or .H s)
def execOr_L (s : State) : Result := .next (aluReg 0xB5 .or .L s)
def execOr_A (s : State) : Result := .next (aluReg 0xB7 .or .A s)

/-! ### R196 -/

def execOr_mHL (s : State) : Result := .next (aluMem 0xB6 .or s)

/-! ### R197 -/

def execOr_n8 (n : Byte) (s : State) : Result := .next (aluImm 0xF6 .or n s)

/-! ### R198 -/

def execCp_B (s : State) : Result := .next (aluReg 0xB8 .cp .B s)
def execCp_C (s : State) : Result := .next (aluReg 0xB9 .cp .C s)
def execCp_D (s : State) : Result := .next (aluReg 0xBA .cp .D s)
def execCp_E (s : State) : Result := .next (aluReg 0xBB .cp .E s)
def execCp_H (s : State) : Result := .next (aluReg 0xBC .cp .H s)
def execCp_L (s : State) : Result := .next (aluReg 0xBD .cp .L s)
def execCp_A (s : State) : Result := .next (aluReg 0xBF .cp .A s)

/-! ### R199 -/

def execCp_mHL (s : State) : Result := .next (aluMem 0xBE .cp s)

/-! ### R200 -/

def execCp_n8 (n : Byte) (s : State) : Result := .next (aluImm 0xFE .cp n s)

/-! ### R201 -/

def execInc_B (s : State) : Result := .next (incReg 0x04 .B s)
def execInc_C (s : State) : Result := .next (incReg 0x0C .C s)
def execInc_D (s : State) : Result := .next (incReg 0x14 .D s)
def execInc_E (s : State) : Result := .next (incReg 0x1C .E s)
def execInc_H (s : State) : Result := .next (incReg 0x24 .H s)
def execInc_L (s : State) : Result := .next (incReg 0x2C .L s)
def execInc_A (s : State) : Result := .next (incReg 0x3C .A s)

/-! ### R202 -/

def execInc_mHL (s : State) : Result := .next (incMem 0x34 s)

/-! ### R203 -/

def execDec_B (s : State) : Result := .next (decReg 0x05 .B s)
def execDec_C (s : State) : Result := .next (decReg 0x0D .C s)
def execDec_D (s : State) : Result := .next (decReg 0x15 .D s)
def execDec_E (s : State) : Result := .next (decReg 0x1D .E s)
def execDec_H (s : State) : Result := .next (decReg 0x25 .H s)
def execDec_L (s : State) : Result := .next (decReg 0x2D .L s)
def execDec_A (s : State) : Result := .next (decReg 0x3D .A s)

/-! ### R204 -/

def execDec_mHL (s : State) : Result := .next (decMem 0x35 s)

/-! ### R205 -/

def execDaa (s : State) : Result := .next (decimalAdjust 0x27 s)

/-! ### R206 -/

def execCpl (s : State) : Result := .next (complementA 0x2F s)

/-! ### R207 -/

def execScf (s : State) : Result := .next (setCarry 0x37 s)

/-! ### R208 -/

def execCcf (s : State) : Result := .next (complementCarry 0x3F s)

end Sys2Proof.Machine
end

