-- ==== Sys2Proof/Machine/Control.lean ====
section
/-! DEFINITION. Jumps, calls, returns and restarts (47_control.md, R280 to R291). PC is the address after the instruction
when a meaning runs (R126). No flag changes. -/

namespace Sys2Proof.Machine

/-- The target of a relative jump: PC after the instruction plus the signed displacement (R284). -/
def relTarget (e : Byte) (s : State) : Word := s.regs.pc + sext16 e

/-- PC <- target (R281, R283, R284). -/
def jumpTo (op : Byte) (a : Word) (s : State) : State := (s.setPC a).spendBase op

/-- Push(PC); PC <- target (R286, R291). -/
def callTo (op : Byte) (a : Word) (s : State) : State := ((s.push s.regs.pc).setPC a).spendBase op

/-- PC <- Pop() (R288). -/
def ret (op : Byte) (s : State) : State := (s.dropTop.setPC s.top).spendBase op

/-- A conditional transfer: when the condition holds its effect and CostTaken more ticks, else nothing but the base
cost (R129, R280). -/
def whenCond (c : Cond) (extra : Nat) (taken : State → State) (op : Byte) (s : State) : State :=
  if s.cond c then (taken s).spend extra else s.spendBase op

/-- `JP cc,a16` (R282). -/
def jumpCond (op : Byte) (c : Cond) (a : Word) (s : State) : State := whenCond c s.params.taken.jp (jumpTo op a) op s

/-- `JR cc,e8` (R285). -/
def jumpRelCond (op : Byte) (c : Cond) (e : Byte) (s : State) : State :=
  whenCond c s.params.taken.jr (jumpTo op (relTarget e s)) op s

/-- `CALL cc,a16` (R287). -/
def callCond (op : Byte) (c : Cond) (a : Word) (s : State) : State := whenCond c s.params.taken.call (callTo op a) op s

/-- `RET cc` (R289). -/
def retCond (op : Byte) (c : Cond) (s : State) : State := whenCond c s.params.taken.ret (ret op) op s

/-- `RETI` (R290). -/
def retInterrupt (op : Byte) (s : State) : State := s.returnFromInterrupt.spendBase op

/-! ### R281 -/

def execJp_a16 (a : Word) (s : State) : Result := .next (jumpTo 0xC3 a s)

/-! ### R282 -/

def execJp_NZ_a16 (a : Word) (s : State) : Result := .next (jumpCond 0xC2 .NZ a s)
def execJp_Z_a16 (a : Word) (s : State) : Result := .next (jumpCond 0xCA .Z a s)
def execJp_NC_a16 (a : Word) (s : State) : Result := .next (jumpCond 0xD2 .NC a s)
def execJp_C_a16 (a : Word) (s : State) : Result := .next (jumpCond 0xDA .C a s)

/-! ### R283 -/

def execJp_HL (s : State) : Result := .next (jumpTo 0xE9 s.getHL s)

/-! ### R284 -/

def execJr_e8 (e : Byte) (s : State) : Result := .next (jumpTo 0x18 (relTarget e s) s)

/-! ### R285 -/

def execJr_NZ_e8 (e : Byte) (s : State) : Result := .next (jumpRelCond 0x20 .NZ e s)
def execJr_Z_e8 (e : Byte) (s : State) : Result := .next (jumpRelCond 0x28 .Z e s)
def execJr_NC_e8 (e : Byte) (s : State) : Result := .next (jumpRelCond 0x30 .NC e s)
def execJr_C_e8 (e : Byte) (s : State) : Result := .next (jumpRelCond 0x38 .C e s)

/-! ### R286 -/

def execCall_a16 (a : Word) (s : State) : Result := .next (callTo 0xCD a s)

/-! ### R287 -/

def execCall_NZ_a16 (a : Word) (s : State) : Result := .next (callCond 0xC4 .NZ a s)
def execCall_Z_a16 (a : Word) (s : State) : Result := .next (callCond 0xCC .Z a s)
def execCall_NC_a16 (a : Word) (s : State) : Result := .next (callCond 0xD4 .NC a s)
def execCall_C_a16 (a : Word) (s : State) : Result := .next (callCond 0xDC .C a s)

/-! ### R288 -/

def execRet (s : State) : Result := .next (ret 0xC9 s)

/-! ### R289 -/

def execRet_NZ (s : State) : Result := .next (retCond 0xC0 .NZ s)
def execRet_Z (s : State) : Result := .next (retCond 0xC8 .Z s)
def execRet_NC (s : State) : Result := .next (retCond 0xD0 .NC s)
def execRet_C (s : State) : Result := .next (retCond 0xD8 .C s)

/-! ### R290 -/

def execReti (s : State) : Result := .next (retInterrupt 0xD9 s)

/-! ### R291 -/

def execRst_00H (s : State) : Result := .next (callTo 0xC7 0x0000 s)
def execRst_08H (s : State) : Result := .next (callTo 0xCF 0x0008 s)
def execRst_10H (s : State) : Result := .next (callTo 0xD7 0x0010 s)
def execRst_18H (s : State) : Result := .next (callTo 0xDF 0x0018 s)
def execRst_20H (s : State) : Result := .next (callTo 0xE7 0x0020 s)
def execRst_28H (s : State) : Result := .next (callTo 0xEF 0x0028 s)
def execRst_30H (s : State) : Result := .next (callTo 0xF7 0x0030 s)
def execRst_38H (s : State) : Result := .next (callTo 0xFF 0x0038 s)

end Sys2Proof.Machine
end

