-- ==== Sys2Proof/Machine/Extended.lean ====
section
/-! DEFINITION. The extended instructions, behind 0xCB (46_cb.md, R250 to R271), and the escape itself (R305). Their
operations are the same on a register and on the byte at HL, which is read and then written back. -/

namespace Sys2Proof.Machine

/-- A rotate, shift or SWAP: flags (res = 0), 0, 0, cout (R250 to R265). -/
def cbShift (op2 : Byte) (f : ShiftOp) (o : Opnd8) (s : State) : State :=
  let (res, cout) := shiftResult f (s.readOpnd o) s.flagC
  ((s.writeOpnd o res).flagLine (some (res == 0)) (some false) (some false) (some cout)).spendExtended op2

/-- `BIT b`: flags not bit b, 0, 1, -; the operand is not written (R266, R267). -/
def cbBit (op2 : Byte) (b : BitNo) (o : Opnd8) (s : State) : State :=
  (s.flagLine (some !(testBit8 b (s.readOpnd o))) (some false) (some true) none).spendExtended op2

/-- `RES b`: always written back, no flag (R268, R269). -/
def cbRes (op2 : Byte) (b : BitNo) (o : Opnd8) (s : State) : State :=
  (s.writeOpnd o (clearBit8 b (s.readOpnd o))).spendExtended op2

/-- `SET b`: always written back, no flag (R270, R271). -/
def cbSet (op2 : Byte) (b : BitNo) (o : Opnd8) (s : State) : State :=
  (s.writeOpnd o (setBit8 b (s.readOpnd o))).spendExtended op2

/-- `reg8` by code (R103). -/
def opndOfCode (z : BitVec 3) : Opnd8 :=
  match z.toNat with
  | 0 => .reg .B
  | 1 => .reg .C
  | 2 => .reg .D
  | 3 => .reg .E
  | 4 => .reg .H
  | 5 => .reg .L
  | 6 => .mHL
  | _ => .reg .A

/-- The bit number of field y. -/
def bitOfCode (y : BitVec 3) : BitNo :=
  match y.toNat with
  | 0 => .b0
  | 1 => .b1
  | 2 => .b2
  | 3 => .b3
  | 4 => .b4
  | 5 => .b5
  | 6 => .b6
  | _ => .b7

/-- The rotate or shift of field y (R107). -/
def shiftOfCode (y : BitVec 3) : ShiftOp :=
  match y.toNat with
  | 0 => .rlc
  | 1 => .rrc
  | 2 => .rl
  | 3 => .rr
  | 4 => .sla
  | 5 => .sra
  | 6 => .swap
  | _ => .srl

/-- `ExecuteCB(op2)` by the fields x, y, z of the byte (R102, R107, R115, R128). -/
def runExtended (op2 : Byte) (s : State) : State :=
  let y := op2.extractLsb' 3 3
  let o := opndOfCode (op2.extractLsb' 0 3)
  match (op2.extractLsb' 6 2).toNat with
  | 0 => cbShift op2 (shiftOfCode y) o s
  | 1 => cbBit op2 (bitOfCode y) o s
  | 2 => cbRes op2 (bitOfCode y) o s
  | _ => cbSet op2 (bitOfCode y) o s

/-! ### R250 -/

def execRlc_B (s : State) : Result := .next (cbShift 0x00 .rlc (.reg .B) s)
def execRlc_C (s : State) : Result := .next (cbShift 0x01 .rlc (.reg .C) s)
def execRlc_D (s : State) : Result := .next (cbShift 0x02 .rlc (.reg .D) s)
def execRlc_E (s : State) : Result := .next (cbShift 0x03 .rlc (.reg .E) s)
def execRlc_H (s : State) : Result := .next (cbShift 0x04 .rlc (.reg .H) s)
def execRlc_L (s : State) : Result := .next (cbShift 0x05 .rlc (.reg .L) s)
def execRlc_A (s : State) : Result := .next (cbShift 0x07 .rlc (.reg .A) s)

/-! ### R251 -/

def execRlc_mHL (s : State) : Result := .next (cbShift 0x06 .rlc .mHL s)

/-! ### R252 -/

def execRrc_B (s : State) : Result := .next (cbShift 0x08 .rrc (.reg .B) s)
def execRrc_C (s : State) : Result := .next (cbShift 0x09 .rrc (.reg .C) s)
def execRrc_D (s : State) : Result := .next (cbShift 0x0A .rrc (.reg .D) s)
def execRrc_E (s : State) : Result := .next (cbShift 0x0B .rrc (.reg .E) s)
def execRrc_H (s : State) : Result := .next (cbShift 0x0C .rrc (.reg .H) s)
def execRrc_L (s : State) : Result := .next (cbShift 0x0D .rrc (.reg .L) s)
def execRrc_A (s : State) : Result := .next (cbShift 0x0F .rrc (.reg .A) s)

/-! ### R253 -/

def execRrc_mHL (s : State) : Result := .next (cbShift 0x0E .rrc .mHL s)

/-! ### R254 -/

def execRl_B (s : State) : Result := .next (cbShift 0x10 .rl (.reg .B) s)
def execRl_C (s : State) : Result := .next (cbShift 0x11 .rl (.reg .C) s)
def execRl_D (s : State) : Result := .next (cbShift 0x12 .rl (.reg .D) s)
def execRl_E (s : State) : Result := .next (cbShift 0x13 .rl (.reg .E) s)
def execRl_H (s : State) : Result := .next (cbShift 0x14 .rl (.reg .H) s)
def execRl_L (s : State) : Result := .next (cbShift 0x15 .rl (.reg .L) s)
def execRl_A (s : State) : Result := .next (cbShift 0x17 .rl (.reg .A) s)

/-! ### R255 -/

def execRl_mHL (s : State) : Result := .next (cbShift 0x16 .rl .mHL s)

/-! ### R256 -/

def execRr_B (s : State) : Result := .next (cbShift 0x18 .rr (.reg .B) s)
def execRr_C (s : State) : Result := .next (cbShift 0x19 .rr (.reg .C) s)
def execRr_D (s : State) : Result := .next (cbShift 0x1A .rr (.reg .D) s)
def execRr_E (s : State) : Result := .next (cbShift 0x1B .rr (.reg .E) s)
def execRr_H (s : State) : Result := .next (cbShift 0x1C .rr (.reg .H) s)
def execRr_L (s : State) : Result := .next (cbShift 0x1D .rr (.reg .L) s)
def execRr_A (s : State) : Result := .next (cbShift 0x1F .rr (.reg .A) s)

/-! ### R257 -/

def execRr_mHL (s : State) : Result := .next (cbShift 0x1E .rr .mHL s)

/-! ### R258 -/

def execSla_B (s : State) : Result := .next (cbShift 0x20 .sla (.reg .B) s)
def execSla_C (s : State) : Result := .next (cbShift 0x21 .sla (.reg .C) s)
def execSla_D (s : State) : Result := .next (cbShift 0x22 .sla (.reg .D) s)
def execSla_E (s : State) : Result := .next (cbShift 0x23 .sla (.reg .E) s)
def execSla_H (s : State) : Result := .next (cbShift 0x24 .sla (.reg .H) s)
def execSla_L (s : State) : Result := .next (cbShift 0x25 .sla (.reg .L) s)
def execSla_A (s : State) : Result := .next (cbShift 0x27 .sla (.reg .A) s)

/-! ### R259 -/

def execSla_mHL (s : State) : Result := .next (cbShift 0x26 .sla .mHL s)

/-! ### R260 -/

def execSra_B (s : State) : Result := .next (cbShift 0x28 .sra (.reg .B) s)
def execSra_C (s : State) : Result := .next (cbShift 0x29 .sra (.reg .C) s)
def execSra_D (s : State) : Result := .next (cbShift 0x2A .sra (.reg .D) s)
def execSra_E (s : State) : Result := .next (cbShift 0x2B .sra (.reg .E) s)
def execSra_H (s : State) : Result := .next (cbShift 0x2C .sra (.reg .H) s)
def execSra_L (s : State) : Result := .next (cbShift 0x2D .sra (.reg .L) s)
def execSra_A (s : State) : Result := .next (cbShift 0x2F .sra (.reg .A) s)

/-! ### R261 -/

def execSra_mHL (s : State) : Result := .next (cbShift 0x2E .sra .mHL s)

/-! ### R262 -/

def execSwap_B (s : State) : Result := .next (cbShift 0x30 .swap (.reg .B) s)
def execSwap_C (s : State) : Result := .next (cbShift 0x31 .swap (.reg .C) s)
def execSwap_D (s : State) : Result := .next (cbShift 0x32 .swap (.reg .D) s)
def execSwap_E (s : State) : Result := .next (cbShift 0x33 .swap (.reg .E) s)
def execSwap_H (s : State) : Result := .next (cbShift 0x34 .swap (.reg .H) s)
def execSwap_L (s : State) : Result := .next (cbShift 0x35 .swap (.reg .L) s)
def execSwap_A (s : State) : Result := .next (cbShift 0x37 .swap (.reg .A) s)

/-! ### R263 -/

def execSwap_mHL (s : State) : Result := .next (cbShift 0x36 .swap .mHL s)

/-! ### R264 -/

def execSrl_B (s : State) : Result := .next (cbShift 0x38 .srl (.reg .B) s)
def execSrl_C (s : State) : Result := .next (cbShift 0x39 .srl (.reg .C) s)
def execSrl_D (s : State) : Result := .next (cbShift 0x3A .srl (.reg .D) s)
def execSrl_E (s : State) : Result := .next (cbShift 0x3B .srl (.reg .E) s)
def execSrl_H (s : State) : Result := .next (cbShift 0x3C .srl (.reg .H) s)
def execSrl_L (s : State) : Result := .next (cbShift 0x3D .srl (.reg .L) s)
def execSrl_A (s : State) : Result := .next (cbShift 0x3F .srl (.reg .A) s)

/-! ### R265 -/

def execSrl_mHL (s : State) : Result := .next (cbShift 0x3E .srl .mHL s)

/-! ### R266 -/

def execBit_0_B (s : State) : Result := .next (cbBit 0x40 .b0 (.reg .B) s)
def execBit_0_C (s : State) : Result := .next (cbBit 0x41 .b0 (.reg .C) s)
def execBit_0_D (s : State) : Result := .next (cbBit 0x42 .b0 (.reg .D) s)
def execBit_0_E (s : State) : Result := .next (cbBit 0x43 .b0 (.reg .E) s)
def execBit_0_H (s : State) : Result := .next (cbBit 0x44 .b0 (.reg .H) s)
def execBit_0_L (s : State) : Result := .next (cbBit 0x45 .b0 (.reg .L) s)
def execBit_0_A (s : State) : Result := .next (cbBit 0x47 .b0 (.reg .A) s)
def execBit_1_B (s : State) : Result := .next (cbBit 0x48 .b1 (.reg .B) s)
def execBit_1_C (s : State) : Result := .next (cbBit 0x49 .b1 (.reg .C) s)
def execBit_1_D (s : State) : Result := .next (cbBit 0x4A .b1 (.reg .D) s)
def execBit_1_E (s : State) : Result := .next (cbBit 0x4B .b1 (.reg .E) s)
def execBit_1_H (s : State) : Result := .next (cbBit 0x4C .b1 (.reg .H) s)
def execBit_1_L (s : State) : Result := .next (cbBit 0x4D .b1 (.reg .L) s)
def execBit_1_A (s : State) : Result := .next (cbBit 0x4F .b1 (.reg .A) s)
def execBit_2_B (s : State) : Result := .next (cbBit 0x50 .b2 (.reg .B) s)
def execBit_2_C (s : State) : Result := .next (cbBit 0x51 .b2 (.reg .C) s)
def execBit_2_D (s : State) : Result := .next (cbBit 0x52 .b2 (.reg .D) s)
def execBit_2_E (s : State) : Result := .next (cbBit 0x53 .b2 (.reg .E) s)
def execBit_2_H (s : State) : Result := .next (cbBit 0x54 .b2 (.reg .H) s)
def execBit_2_L (s : State) : Result := .next (cbBit 0x55 .b2 (.reg .L) s)
def execBit_2_A (s : State) : Result := .next (cbBit 0x57 .b2 (.reg .A) s)
def execBit_3_B (s : State) : Result := .next (cbBit 0x58 .b3 (.reg .B) s)
def execBit_3_C (s : State) : Result := .next (cbBit 0x59 .b3 (.reg .C) s)
def execBit_3_D (s : State) : Result := .next (cbBit 0x5A .b3 (.reg .D) s)
def execBit_3_E (s : State) : Result := .next (cbBit 0x5B .b3 (.reg .E) s)
def execBit_3_H (s : State) : Result := .next (cbBit 0x5C .b3 (.reg .H) s)
def execBit_3_L (s : State) : Result := .next (cbBit 0x5D .b3 (.reg .L) s)
def execBit_3_A (s : State) : Result := .next (cbBit 0x5F .b3 (.reg .A) s)
def execBit_4_B (s : State) : Result := .next (cbBit 0x60 .b4 (.reg .B) s)
def execBit_4_C (s : State) : Result := .next (cbBit 0x61 .b4 (.reg .C) s)
def execBit_4_D (s : State) : Result := .next (cbBit 0x62 .b4 (.reg .D) s)
def execBit_4_E (s : State) : Result := .next (cbBit 0x63 .b4 (.reg .E) s)
def execBit_4_H (s : State) : Result := .next (cbBit 0x64 .b4 (.reg .H) s)
def execBit_4_L (s : State) : Result := .next (cbBit 0x65 .b4 (.reg .L) s)
def execBit_4_A (s : State) : Result := .next (cbBit 0x67 .b4 (.reg .A) s)
def execBit_5_B (s : State) : Result := .next (cbBit 0x68 .b5 (.reg .B) s)
def execBit_5_C (s : State) : Result := .next (cbBit 0x69 .b5 (.reg .C) s)
def execBit_5_D (s : State) : Result := .next (cbBit 0x6A .b5 (.reg .D) s)
def execBit_5_E (s : State) : Result := .next (cbBit 0x6B .b5 (.reg .E) s)
def execBit_5_H (s : State) : Result := .next (cbBit 0x6C .b5 (.reg .H) s)
def execBit_5_L (s : State) : Result := .next (cbBit 0x6D .b5 (.reg .L) s)
def execBit_5_A (s : State) : Result := .next (cbBit 0x6F .b5 (.reg .A) s)
def execBit_6_B (s : State) : Result := .next (cbBit 0x70 .b6 (.reg .B) s)
def execBit_6_C (s : State) : Result := .next (cbBit 0x71 .b6 (.reg .C) s)
def execBit_6_D (s : State) : Result := .next (cbBit 0x72 .b6 (.reg .D) s)
def execBit_6_E (s : State) : Result := .next (cbBit 0x73 .b6 (.reg .E) s)
def execBit_6_H (s : State) : Result := .next (cbBit 0x74 .b6 (.reg .H) s)
def execBit_6_L (s : State) : Result := .next (cbBit 0x75 .b6 (.reg .L) s)
def execBit_6_A (s : State) : Result := .next (cbBit 0x77 .b6 (.reg .A) s)
def execBit_7_B (s : State) : Result := .next (cbBit 0x78 .b7 (.reg .B) s)
def execBit_7_C (s : State) : Result := .next (cbBit 0x79 .b7 (.reg .C) s)
def execBit_7_D (s : State) : Result := .next (cbBit 0x7A .b7 (.reg .D) s)
def execBit_7_E (s : State) : Result := .next (cbBit 0x7B .b7 (.reg .E) s)
def execBit_7_H (s : State) : Result := .next (cbBit 0x7C .b7 (.reg .H) s)
def execBit_7_L (s : State) : Result := .next (cbBit 0x7D .b7 (.reg .L) s)
def execBit_7_A (s : State) : Result := .next (cbBit 0x7F .b7 (.reg .A) s)

/-! ### R267 -/

def execBit_0_mHL (s : State) : Result := .next (cbBit 0x46 .b0 .mHL s)
def execBit_1_mHL (s : State) : Result := .next (cbBit 0x4E .b1 .mHL s)
def execBit_2_mHL (s : State) : Result := .next (cbBit 0x56 .b2 .mHL s)
def execBit_3_mHL (s : State) : Result := .next (cbBit 0x5E .b3 .mHL s)
def execBit_4_mHL (s : State) : Result := .next (cbBit 0x66 .b4 .mHL s)
def execBit_5_mHL (s : State) : Result := .next (cbBit 0x6E .b5 .mHL s)
def execBit_6_mHL (s : State) : Result := .next (cbBit 0x76 .b6 .mHL s)
def execBit_7_mHL (s : State) : Result := .next (cbBit 0x7E .b7 .mHL s)

/-! ### R268 -/

def execRes_0_B (s : State) : Result := .next (cbRes 0x80 .b0 (.reg .B) s)
def execRes_0_C (s : State) : Result := .next (cbRes 0x81 .b0 (.reg .C) s)
def execRes_0_D (s : State) : Result := .next (cbRes 0x82 .b0 (.reg .D) s)
def execRes_0_E (s : State) : Result := .next (cbRes 0x83 .b0 (.reg .E) s)
def execRes_0_H (s : State) : Result := .next (cbRes 0x84 .b0 (.reg .H) s)
def execRes_0_L (s : State) : Result := .next (cbRes 0x85 .b0 (.reg .L) s)
def execRes_0_A (s : State) : Result := .next (cbRes 0x87 .b0 (.reg .A) s)
def execRes_1_B (s : State) : Result := .next (cbRes 0x88 .b1 (.reg .B) s)
def execRes_1_C (s : State) : Result := .next (cbRes 0x89 .b1 (.reg .C) s)
def execRes_1_D (s : State) : Result := .next (cbRes 0x8A .b1 (.reg .D) s)
def execRes_1_E (s : State) : Result := .next (cbRes 0x8B .b1 (.reg .E) s)
def execRes_1_H (s : State) : Result := .next (cbRes 0x8C .b1 (.reg .H) s)
def execRes_1_L (s : State) : Result := .next (cbRes 0x8D .b1 (.reg .L) s)
def execRes_1_A (s : State) : Result := .next (cbRes 0x8F .b1 (.reg .A) s)
def execRes_2_B (s : State) : Result := .next (cbRes 0x90 .b2 (.reg .B) s)
def execRes_2_C (s : State) : Result := .next (cbRes 0x91 .b2 (.reg .C) s)
def execRes_2_D (s : State) : Result := .next (cbRes 0x92 .b2 (.reg .D) s)
def execRes_2_E (s : State) : Result := .next (cbRes 0x93 .b2 (.reg .E) s)
def execRes_2_H (s : State) : Result := .next (cbRes 0x94 .b2 (.reg .H) s)
def execRes_2_L (s : State) : Result := .next (cbRes 0x95 .b2 (.reg .L) s)
def execRes_2_A (s : State) : Result := .next (cbRes 0x97 .b2 (.reg .A) s)
def execRes_3_B (s : State) : Result := .next (cbRes 0x98 .b3 (.reg .B) s)
def execRes_3_C (s : State) : Result := .next (cbRes 0x99 .b3 (.reg .C) s)
def execRes_3_D (s : State) : Result := .next (cbRes 0x9A .b3 (.reg .D) s)
def execRes_3_E (s : State) : Result := .next (cbRes 0x9B .b3 (.reg .E) s)
def execRes_3_H (s : State) : Result := .next (cbRes 0x9C .b3 (.reg .H) s)
def execRes_3_L (s : State) : Result := .next (cbRes 0x9D .b3 (.reg .L) s)
def execRes_3_A (s : State) : Result := .next (cbRes 0x9F .b3 (.reg .A) s)
def execRes_4_B (s : State) : Result := .next (cbRes 0xA0 .b4 (.reg .B) s)
def execRes_4_C (s : State) : Result := .next (cbRes 0xA1 .b4 (.reg .C) s)
def execRes_4_D (s : State) : Result := .next (cbRes 0xA2 .b4 (.reg .D) s)
def execRes_4_E (s : State) : Result := .next (cbRes 0xA3 .b4 (.reg .E) s)
def execRes_4_H (s : State) : Result := .next (cbRes 0xA4 .b4 (.reg .H) s)
def execRes_4_L (s : State) : Result := .next (cbRes 0xA5 .b4 (.reg .L) s)
def execRes_4_A (s : State) : Result := .next (cbRes 0xA7 .b4 (.reg .A) s)
def execRes_5_B (s : State) : Result := .next (cbRes 0xA8 .b5 (.reg .B) s)
def execRes_5_C (s : State) : Result := .next (cbRes 0xA9 .b5 (.reg .C) s)
def execRes_5_D (s : State) : Result := .next (cbRes 0xAA .b5 (.reg .D) s)
def execRes_5_E (s : State) : Result := .next (cbRes 0xAB .b5 (.reg .E) s)
def execRes_5_H (s : State) : Result := .next (cbRes 0xAC .b5 (.reg .H) s)
def execRes_5_L (s : State) : Result := .next (cbRes 0xAD .b5 (.reg .L) s)
def execRes_5_A (s : State) : Result := .next (cbRes 0xAF .b5 (.reg .A) s)
def execRes_6_B (s : State) : Result := .next (cbRes 0xB0 .b6 (.reg .B) s)
def execRes_6_C (s : State) : Result := .next (cbRes 0xB1 .b6 (.reg .C) s)
def execRes_6_D (s : State) : Result := .next (cbRes 0xB2 .b6 (.reg .D) s)
def execRes_6_E (s : State) : Result := .next (cbRes 0xB3 .b6 (.reg .E) s)
def execRes_6_H (s : State) : Result := .next (cbRes 0xB4 .b6 (.reg .H) s)
def execRes_6_L (s : State) : Result := .next (cbRes 0xB5 .b6 (.reg .L) s)
def execRes_6_A (s : State) : Result := .next (cbRes 0xB7 .b6 (.reg .A) s)
def execRes_7_B (s : State) : Result := .next (cbRes 0xB8 .b7 (.reg .B) s)
def execRes_7_C (s : State) : Result := .next (cbRes 0xB9 .b7 (.reg .C) s)
def execRes_7_D (s : State) : Result := .next (cbRes 0xBA .b7 (.reg .D) s)
def execRes_7_E (s : State) : Result := .next (cbRes 0xBB .b7 (.reg .E) s)
def execRes_7_H (s : State) : Result := .next (cbRes 0xBC .b7 (.reg .H) s)
def execRes_7_L (s : State) : Result := .next (cbRes 0xBD .b7 (.reg .L) s)
def execRes_7_A (s : State) : Result := .next (cbRes 0xBF .b7 (.reg .A) s)

/-! ### R269 -/

def execRes_0_mHL (s : State) : Result := .next (cbRes 0x86 .b0 .mHL s)
def execRes_1_mHL (s : State) : Result := .next (cbRes 0x8E .b1 .mHL s)
def execRes_2_mHL (s : State) : Result := .next (cbRes 0x96 .b2 .mHL s)
def execRes_3_mHL (s : State) : Result := .next (cbRes 0x9E .b3 .mHL s)
def execRes_4_mHL (s : State) : Result := .next (cbRes 0xA6 .b4 .mHL s)
def execRes_5_mHL (s : State) : Result := .next (cbRes 0xAE .b5 .mHL s)
def execRes_6_mHL (s : State) : Result := .next (cbRes 0xB6 .b6 .mHL s)
def execRes_7_mHL (s : State) : Result := .next (cbRes 0xBE .b7 .mHL s)

/-! ### R270 -/

def execSet_0_B (s : State) : Result := .next (cbSet 0xC0 .b0 (.reg .B) s)
def execSet_0_C (s : State) : Result := .next (cbSet 0xC1 .b0 (.reg .C) s)
def execSet_0_D (s : State) : Result := .next (cbSet 0xC2 .b0 (.reg .D) s)
def execSet_0_E (s : State) : Result := .next (cbSet 0xC3 .b0 (.reg .E) s)
def execSet_0_H (s : State) : Result := .next (cbSet 0xC4 .b0 (.reg .H) s)
def execSet_0_L (s : State) : Result := .next (cbSet 0xC5 .b0 (.reg .L) s)
def execSet_0_A (s : State) : Result := .next (cbSet 0xC7 .b0 (.reg .A) s)
def execSet_1_B (s : State) : Result := .next (cbSet 0xC8 .b1 (.reg .B) s)
def execSet_1_C (s : State) : Result := .next (cbSet 0xC9 .b1 (.reg .C) s)
def execSet_1_D (s : State) : Result := .next (cbSet 0xCA .b1 (.reg .D) s)
def execSet_1_E (s : State) : Result := .next (cbSet 0xCB .b1 (.reg .E) s)
def execSet_1_H (s : State) : Result := .next (cbSet 0xCC .b1 (.reg .H) s)
def execSet_1_L (s : State) : Result := .next (cbSet 0xCD .b1 (.reg .L) s)
def execSet_1_A (s : State) : Result := .next (cbSet 0xCF .b1 (.reg .A) s)
def execSet_2_B (s : State) : Result := .next (cbSet 0xD0 .b2 (.reg .B) s)
def execSet_2_C (s : State) : Result := .next (cbSet 0xD1 .b2 (.reg .C) s)
def execSet_2_D (s : State) : Result := .next (cbSet 0xD2 .b2 (.reg .D) s)
def execSet_2_E (s : State) : Result := .next (cbSet 0xD3 .b2 (.reg .E) s)
def execSet_2_H (s : State) : Result := .next (cbSet 0xD4 .b2 (.reg .H) s)
def execSet_2_L (s : State) : Result := .next (cbSet 0xD5 .b2 (.reg .L) s)
def execSet_2_A (s : State) : Result := .next (cbSet 0xD7 .b2 (.reg .A) s)
def execSet_3_B (s : State) : Result := .next (cbSet 0xD8 .b3 (.reg .B) s)
def execSet_3_C (s : State) : Result := .next (cbSet 0xD9 .b3 (.reg .C) s)
def execSet_3_D (s : State) : Result := .next (cbSet 0xDA .b3 (.reg .D) s)
def execSet_3_E (s : State) : Result := .next (cbSet 0xDB .b3 (.reg .E) s)
def execSet_3_H (s : State) : Result := .next (cbSet 0xDC .b3 (.reg .H) s)
def execSet_3_L (s : State) : Result := .next (cbSet 0xDD .b3 (.reg .L) s)
def execSet_3_A (s : State) : Result := .next (cbSet 0xDF .b3 (.reg .A) s)
def execSet_4_B (s : State) : Result := .next (cbSet 0xE0 .b4 (.reg .B) s)
def execSet_4_C (s : State) : Result := .next (cbSet 0xE1 .b4 (.reg .C) s)
def execSet_4_D (s : State) : Result := .next (cbSet 0xE2 .b4 (.reg .D) s)
def execSet_4_E (s : State) : Result := .next (cbSet 0xE3 .b4 (.reg .E) s)
def execSet_4_H (s : State) : Result := .next (cbSet 0xE4 .b4 (.reg .H) s)
def execSet_4_L (s : State) : Result := .next (cbSet 0xE5 .b4 (.reg .L) s)
def execSet_4_A (s : State) : Result := .next (cbSet 0xE7 .b4 (.reg .A) s)
def execSet_5_B (s : State) : Result := .next (cbSet 0xE8 .b5 (.reg .B) s)
def execSet_5_C (s : State) : Result := .next (cbSet 0xE9 .b5 (.reg .C) s)
def execSet_5_D (s : State) : Result := .next (cbSet 0xEA .b5 (.reg .D) s)
def execSet_5_E (s : State) : Result := .next (cbSet 0xEB .b5 (.reg .E) s)
def execSet_5_H (s : State) : Result := .next (cbSet 0xEC .b5 (.reg .H) s)
def execSet_5_L (s : State) : Result := .next (cbSet 0xED .b5 (.reg .L) s)
def execSet_5_A (s : State) : Result := .next (cbSet 0xEF .b5 (.reg .A) s)
def execSet_6_B (s : State) : Result := .next (cbSet 0xF0 .b6 (.reg .B) s)
def execSet_6_C (s : State) : Result := .next (cbSet 0xF1 .b6 (.reg .C) s)
def execSet_6_D (s : State) : Result := .next (cbSet 0xF2 .b6 (.reg .D) s)
def execSet_6_E (s : State) : Result := .next (cbSet 0xF3 .b6 (.reg .E) s)
def execSet_6_H (s : State) : Result := .next (cbSet 0xF4 .b6 (.reg .H) s)
def execSet_6_L (s : State) : Result := .next (cbSet 0xF5 .b6 (.reg .L) s)
def execSet_6_A (s : State) : Result := .next (cbSet 0xF7 .b6 (.reg .A) s)
def execSet_7_B (s : State) : Result := .next (cbSet 0xF8 .b7 (.reg .B) s)
def execSet_7_C (s : State) : Result := .next (cbSet 0xF9 .b7 (.reg .C) s)
def execSet_7_D (s : State) : Result := .next (cbSet 0xFA .b7 (.reg .D) s)
def execSet_7_E (s : State) : Result := .next (cbSet 0xFB .b7 (.reg .E) s)
def execSet_7_H (s : State) : Result := .next (cbSet 0xFC .b7 (.reg .H) s)
def execSet_7_L (s : State) : Result := .next (cbSet 0xFD .b7 (.reg .L) s)
def execSet_7_A (s : State) : Result := .next (cbSet 0xFF .b7 (.reg .A) s)

/-! ### R271 -/

def execSet_0_mHL (s : State) : Result := .next (cbSet 0xC6 .b0 .mHL s)
def execSet_1_mHL (s : State) : Result := .next (cbSet 0xCE .b1 .mHL s)
def execSet_2_mHL (s : State) : Result := .next (cbSet 0xD6 .b2 .mHL s)
def execSet_3_mHL (s : State) : Result := .next (cbSet 0xDE .b3 .mHL s)
def execSet_4_mHL (s : State) : Result := .next (cbSet 0xE6 .b4 .mHL s)
def execSet_5_mHL (s : State) : Result := .next (cbSet 0xEE .b5 .mHL s)
def execSet_6_mHL (s : State) : Result := .next (cbSet 0xF6 .b6 .mHL s)
def execSet_7_mHL (s : State) : Result := .next (cbSet 0xFE .b7 .mHL s)

/-! ### R305 -/

def execPrefix_CB (op2 : Byte) (s : State) : Result := .next (runExtended op2 s)

end Sys2Proof.Machine
end

