-- ==== Sys2Proof/Machine/Load16.lean ====
section
/-! DEFINITION. The 16-bit loads and the stack (42_load16.md, R160 to R165). Only POP AF changes the flags. -/

namespace Sys2Proof.Machine

/-- `LD rr,n16` (R160). -/
def ldPairImm (op : Byte) (p : Pair) (n : Word) (s : State) : State := (s.setPair p n).spendBase op

/-- `LD (a16),SP`: the low byte of SP at a16, the high byte at a16 + 1 (R161). -/
def storeSP (op : Byte) (a : Word) (s : State) : State := (s.writeShort a s.regs.sp).spendBase op

/-- `LD SP,HL` (R162). -/
def ldSPHL (op : Byte) (s : State) : State := (s.setSP s.getHL).spendBase op

/-- `PUSH rr2` (R163). -/
def pushPair (op : Byte) (p : StackPair) (s : State) : State := (s.push (s.getStackPair p)).spendBase op

/-- `POP rr2` and `POP AF`, which drops the low nibble of F (R164, R165). -/
def popPair (op : Byte) (p : StackPair) (s : State) : State := (s.dropTop.setStackPair p s.top).spendBase op

/-! ### R160 -/

def execLd_BC_n16 (n : Word) (s : State) : Result := .next (ldPairImm 0x01 .BC n s)
def execLd_DE_n16 (n : Word) (s : State) : Result := .next (ldPairImm 0x11 .DE n s)
def execLd_HL_n16 (n : Word) (s : State) : Result := .next (ldPairImm 0x21 .HL n s)
def execLd_SP_n16 (n : Word) (s : State) : Result := .next (ldPairImm 0x31 .SP n s)

/-! ### R161 -/

def execLd_ma16_SP (a : Word) (s : State) : Result := .next (storeSP 0x08 a s)

/-! ### R162 -/

def execLd_SP_HL (s : State) : Result := .next (ldSPHL 0xF9 s)

/-! ### R163 -/

def execPush_BC (s : State) : Result := .next (pushPair 0xC5 .BC s)
def execPush_DE (s : State) : Result := .next (pushPair 0xD5 .DE s)
def execPush_HL (s : State) : Result := .next (pushPair 0xE5 .HL s)
def execPush_AF (s : State) : Result := .next (pushPair 0xF5 .AF s)

/-! ### R164 -/

def execPop_BC (s : State) : Result := .next (popPair 0xC1 .BC s)
def execPop_DE (s : State) : Result := .next (popPair 0xD1 .DE s)
def execPop_HL (s : State) : Result := .next (popPair 0xE1 .HL s)

/-! ### R165 -/

def execPop_AF (s : State) : Result := .next (popPair 0xF1 .AF s)

end Sys2Proof.Machine
end

