-- ==== Sys2Proof/Machine/Load8.lean ====
section
/-! DEFINITION. The 8-bit loads (41_load8.md, R140 to R158). No load changes a flag. -/

namespace Sys2Proof.Machine

/-- `LD r,r'`: x[d] <- x[s] (R140). -/
def ldRegReg (op : Byte) (d r : Reg8) (s : State) : State := (s.setR d (s.getR r)).spendBase op

/-- `LD r,n8` (R141). -/
def ldRegImm (op : Byte) (d : Reg8) (n : Byte) (s : State) : State := (s.setR d n).spendBase op

/-- `LD r,(HL)`: the address is HL before the load (R142). -/
def ldRegMem (op : Byte) (d : Reg8) (s : State) : State := (s.setR d s.readHL).spendBase op

/-- `LD (HL),r` (R143). -/
def ldMemReg (op : Byte) (r : Reg8) (s : State) : State := (s.writeHL (s.getR r)).spendBase op

/-- `LD (HL),n8` (R144). -/
def ldMemImm (op : Byte) (n : Byte) (s : State) : State := (s.writeHL n).spendBase op

/-- A <- MemRead(a, 1) (R145, R146, R149, R151, R153). -/
def loadA (op : Byte) (a : Word) (s : State) : State := (s.setR .A (s.readByte .data a)).spendBase op

/-- MemWrite(a, 1, A) (R147, R148, R150, R152, R154). -/
def storeA (op : Byte) (a : Word) (s : State) : State := (s.writeByte a s.regs.a).spendBase op

/-- MemWrite(HL, 1, A); HL <- trunc_16(HL + d), d = 1 or -1 (R155, R156). -/
def storeAStep (op : Byte) (d : Word) (s : State) : State :=
  ((s.writeHL s.regs.a).setHL (s.getHL + d)).spendBase op

/-- A <- MemRead(HL, 1); HL <- trunc_16(HL + d), d = 1 or -1 (R157, R158). -/
def loadAStep (op : Byte) (d : Word) (s : State) : State :=
  ((s.setR .A s.readHL).setHL (s.getHL + d)).spendBase op

/-! ### R140 -/

def execLd_B_B (s : State) : Result := .next (ldRegReg 0x40 .B .B s)
def execLd_B_C (s : State) : Result := .next (ldRegReg 0x41 .B .C s)
def execLd_B_D (s : State) : Result := .next (ldRegReg 0x42 .B .D s)
def execLd_B_E (s : State) : Result := .next (ldRegReg 0x43 .B .E s)
def execLd_B_H (s : State) : Result := .next (ldRegReg 0x44 .B .H s)
def execLd_B_L (s : State) : Result := .next (ldRegReg 0x45 .B .L s)
def execLd_B_A (s : State) : Result := .next (ldRegReg 0x47 .B .A s)
def execLd_C_B (s : State) : Result := .next (ldRegReg 0x48 .C .B s)
def execLd_C_C (s : State) : Result := .next (ldRegReg 0x49 .C .C s)
def execLd_C_D (s : State) : Result := .next (ldRegReg 0x4A .C .D s)
def execLd_C_E (s : State) : Result := .next (ldRegReg 0x4B .C .E s)
def execLd_C_H (s : State) : Result := .next (ldRegReg 0x4C .C .H s)
def execLd_C_L (s : State) : Result := .next (ldRegReg 0x4D .C .L s)
def execLd_C_A (s : State) : Result := .next (ldRegReg 0x4F .C .A s)
def execLd_D_B (s : State) : Result := .next (ldRegReg 0x50 .D .B s)
def execLd_D_C (s : State) : Result := .next (ldRegReg 0x51 .D .C s)
def execLd_D_D (s : State) : Result := .next (ldRegReg 0x52 .D .D s)
def execLd_D_E (s : State) : Result := .next (ldRegReg 0x53 .D .E s)
def execLd_D_H (s : State) : Result := .next (ldRegReg 0x54 .D .H s)
def execLd_D_L (s : State) : Result := .next (ldRegReg 0x55 .D .L s)
def execLd_D_A (s : State) : Result := .next (ldRegReg 0x57 .D .A s)
def execLd_E_B (s : State) : Result := .next (ldRegReg 0x58 .E .B s)
def execLd_E_C (s : State) : Result := .next (ldRegReg 0x59 .E .C s)
def execLd_E_D (s : State) : Result := .next (ldRegReg 0x5A .E .D s)
def execLd_E_E (s : State) : Result := .next (ldRegReg 0x5B .E .E s)
def execLd_E_H (s : State) : Result := .next (ldRegReg 0x5C .E .H s)
def execLd_E_L (s : State) : Result := .next (ldRegReg 0x5D .E .L s)
def execLd_E_A (s : State) : Result := .next (ldRegReg 0x5F .E .A s)
def execLd_H_B (s : State) : Result := .next (ldRegReg 0x60 .H .B s)
def execLd_H_C (s : State) : Result := .next (ldRegReg 0x61 .H .C s)
def execLd_H_D (s : State) : Result := .next (ldRegReg 0x62 .H .D s)
def execLd_H_E (s : State) : Result := .next (ldRegReg 0x63 .H .E s)
def execLd_H_H (s : State) : Result := .next (ldRegReg 0x64 .H .H s)
def execLd_H_L (s : State) : Result := .next (ldRegReg 0x65 .H .L s)
def execLd_H_A (s : State) : Result := .next (ldRegReg 0x67 .H .A s)
def execLd_L_B (s : State) : Result := .next (ldRegReg 0x68 .L .B s)
def execLd_L_C (s : State) : Result := .next (ldRegReg 0x69 .L .C s)
def execLd_L_D (s : State) : Result := .next (ldRegReg 0x6A .L .D s)
def execLd_L_E (s : State) : Result := .next (ldRegReg 0x6B .L .E s)
def execLd_L_H (s : State) : Result := .next (ldRegReg 0x6C .L .H s)
def execLd_L_L (s : State) : Result := .next (ldRegReg 0x6D .L .L s)
def execLd_L_A (s : State) : Result := .next (ldRegReg 0x6F .L .A s)
def execLd_A_B (s : State) : Result := .next (ldRegReg 0x78 .A .B s)
def execLd_A_C (s : State) : Result := .next (ldRegReg 0x79 .A .C s)
def execLd_A_D (s : State) : Result := .next (ldRegReg 0x7A .A .D s)
def execLd_A_E (s : State) : Result := .next (ldRegReg 0x7B .A .E s)
def execLd_A_H (s : State) : Result := .next (ldRegReg 0x7C .A .H s)
def execLd_A_L (s : State) : Result := .next (ldRegReg 0x7D .A .L s)
def execLd_A_A (s : State) : Result := .next (ldRegReg 0x7F .A .A s)

/-! ### R141 -/

def execLd_B_n8 (n : Byte) (s : State) : Result := .next (ldRegImm 0x06 .B n s)
def execLd_C_n8 (n : Byte) (s : State) : Result := .next (ldRegImm 0x0E .C n s)
def execLd_D_n8 (n : Byte) (s : State) : Result := .next (ldRegImm 0x16 .D n s)
def execLd_E_n8 (n : Byte) (s : State) : Result := .next (ldRegImm 0x1E .E n s)
def execLd_H_n8 (n : Byte) (s : State) : Result := .next (ldRegImm 0x26 .H n s)
def execLd_L_n8 (n : Byte) (s : State) : Result := .next (ldRegImm 0x2E .L n s)
def execLd_A_n8 (n : Byte) (s : State) : Result := .next (ldRegImm 0x3E .A n s)

/-! ### R142 -/

def execLd_B_mHL (s : State) : Result := .next (ldRegMem 0x46 .B s)
def execLd_C_mHL (s : State) : Result := .next (ldRegMem 0x4E .C s)
def execLd_D_mHL (s : State) : Result := .next (ldRegMem 0x56 .D s)
def execLd_E_mHL (s : State) : Result := .next (ldRegMem 0x5E .E s)
def execLd_H_mHL (s : State) : Result := .next (ldRegMem 0x66 .H s)
def execLd_L_mHL (s : State) : Result := .next (ldRegMem 0x6E .L s)
def execLd_A_mHL (s : State) : Result := .next (ldRegMem 0x7E .A s)

/-! ### R143 -/

def execLd_mHL_B (s : State) : Result := .next (ldMemReg 0x70 .B s)
def execLd_mHL_C (s : State) : Result := .next (ldMemReg 0x71 .C s)
def execLd_mHL_D (s : State) : Result := .next (ldMemReg 0x72 .D s)
def execLd_mHL_E (s : State) : Result := .next (ldMemReg 0x73 .E s)
def execLd_mHL_H (s : State) : Result := .next (ldMemReg 0x74 .H s)
def execLd_mHL_L (s : State) : Result := .next (ldMemReg 0x75 .L s)
def execLd_mHL_A (s : State) : Result := .next (ldMemReg 0x77 .A s)

/-! ### R144 -/

def execLd_mHL_n8 (n : Byte) (s : State) : Result := .next (ldMemImm 0x36 n s)

/-! ### R145 -/

def execLd_A_mBC (s : State) : Result := .next (loadA 0x0A s.getBC s)

/-! ### R146 -/

def execLd_A_mDE (s : State) : Result := .next (loadA 0x1A s.getDE s)

/-! ### R147 -/

def execLd_mBC_A (s : State) : Result := .next (storeA 0x02 s.getBC s)

/-! ### R148 -/

def execLd_mDE_A (s : State) : Result := .next (storeA 0x12 s.getDE s)

/-! ### R149 -/

def execLd_A_ma16 (a : Word) (s : State) : Result := .next (loadA 0xFA a s)

/-! ### R150 -/

def execLd_ma16_A (a : Word) (s : State) : Result := .next (storeA 0xEA a s)

/-! ### R151 -/

def execLdh_A_ma8 (a : Byte) (s : State) : Result := .next (loadA 0xF0 (highPage a) s)

/-! ### R152 -/

def execLdh_ma8_A (a : Byte) (s : State) : Result := .next (storeA 0xE0 (highPage a) s)

/-! ### R153 -/

def execLd_A_mC (s : State) : Result := .next (loadA 0xF2 (highPage s.regs.c) s)

/-! ### R154 -/

def execLd_mC_A (s : State) : Result := .next (storeA 0xE2 (highPage s.regs.c) s)

/-! ### R155 -/

def execLd_mHLi_A (s : State) : Result := .next (storeAStep 0x22 1 s)

/-! ### R156 -/

def execLd_mHLd_A (s : State) : Result := .next (storeAStep 0x32 (-1) s)

/-! ### R157 -/

def execLd_A_mHLi (s : State) : Result := .next (loadAStep 0x2A 1 s)

/-! ### R158 -/

def execLd_A_mHLd (s : State) : Result := .next (loadAStep 0x3A (-1) s)

end Sys2Proof.Machine
end

