-- ==== Sys2Proof/Machine/Rotate.lean ====
section
/-! DEFINITION. The one-byte rotates of A (45_rotate.md, R238 to R241): as the extended ones, but Z is always cleared. -/

namespace Sys2Proof.Machine

/-- A rotate of A: A <- res; flags 0, 0, 0, cout. -/
def rotateA (op : Byte) (o : ShiftOp) (s : State) : State :=
  let (res, cout) := shiftResult o s.regs.a s.flagC
  ((s.setR .A res).flagLine (some false) (some false) (some false) (some cout)).spendBase op

/-! ### R238 -/

def execRlca (s : State) : Result := .next (rotateA 0x07 .rlc s)

/-! ### R239 -/

def execRrca (s : State) : Result := .next (rotateA 0x0F .rrc s)

/-! ### R240 -/

def execRla (s : State) : Result := .next (rotateA 0x17 .rl s)

/-! ### R241 -/

def execRra (s : State) : Result := .next (rotateA 0x1F .rr s)

end Sys2Proof.Machine
end

