-- ==== Sys2Proof/Machine/System.lean ====
section
/-! DEFINITION. System instructions (48_system.md, R300 to R306). -/

namespace Sys2Proof.Machine

/-- `NOP` (R300). -/
def nop (op : Byte) (s : State) : State := s.spendBase op

/-- `HALT`: with IME = 1 the wait of R124; with IME = 0 only PC <- PC + HaltSkip (R301). -/
def halt (op : Byte) (s : State) : State :=
  let s1 := if s.irq.ime then { s with disp.halted := true }
    else s.setPC (s.regs.pc + (if s.params.haltSkip then 1 else 0))
  s1.spendBase op

/-- `STOP`; its second byte is fetched with the instruction and ignored (R302). -/
def stopCore (op : Byte) (s : State) : State := { s with disp.stopped := true }.spendBase op

/-- `DI`, `EI`: IME <- 0 or 1, at once (R303, R304). -/
def setIme (op : Byte) (b : Bool) (s : State) : State := { s with irq.ime := b }.spendBase op

/-! ### R300 -/

def execNop (s : State) : Result := .next (nop 0x00 s)

/-! ### R301 -/

def execHalt (s : State) : Result := .next (halt 0x76 s)

/-! ### R302 -/

def execStop (_n : Byte) (s : State) : Result := .next (stopCore 0x10 s)

/-! ### R303 -/

def execDi (s : State) : Result := .next (setIme 0xF3 false s)

/-! ### R304 -/

def execEi (s : State) : Result := .next (setIme 0xFB true s)

/-! ### R306 -/

def execUndefined_D3 (s : State) : Result := .next (s.raiseUndefined 0xD3)
def execUndefined_DB (s : State) : Result := .next (s.raiseUndefined 0xDB)
def execUndefined_DD (s : State) : Result := .next (s.raiseUndefined 0xDD)
def execUndefined_E3 (s : State) : Result := .next (s.raiseUndefined 0xE3)
def execUndefined_E4 (s : State) : Result := .next (s.raiseUndefined 0xE4)
def execUndefined_EB (s : State) : Result := .next (s.raiseUndefined 0xEB)
def execUndefined_EC (s : State) : Result := .next (s.raiseUndefined 0xEC)
def execUndefined_ED (s : State) : Result := .next (s.raiseUndefined 0xED)
def execUndefined_F4 (s : State) : Result := .next (s.raiseUndefined 0xF4)
def execUndefined_FC (s : State) : Result := .next (s.raiseUndefined 0xFC)
def execUndefined_FD (s : State) : Result := .next (s.raiseUndefined 0xFD)

end Sys2Proof.Machine
end

