-- ==== Sys2Proof/Machine/Video.lean ====
section
/-! DEFINITION. The video unit (60_exceptions.md R324 to R334): the decoded tiles, the scanline renderer, the modes and
the video-unit step. -/

namespace Sys2Proof.Machine

/-! ## Tiles -/

/-- VRAM[o]. -/
def State.vram (s : State) (o : Nat) : Byte := s.cell (0x8000 + o)

/-- OAM[i]. -/
def State.oam (s : State) (i : Nat) : Byte := s.cell (0xFE00 + i)

/-- `lo[7-x] + 2*hi[7-x]` (R67). -/
def planePixel (lo hi : Byte) (x : Nat) : BitVec 2 :=
  BitVec.ofNat 2 ((lo.getLsbD (7 - x)).toNat + 2 * (hi.getLsbD (7 - x)).toNat)

/-- `TileDecode(t, y, x)` over the VRAM as it is (R67). -/
def State.tileDecode (s : State) (t y x : Nat) : BitVec 2 :=
  planePixel (s.vram (16 * t + 2 * y)) (s.vram (16 * t + 2 * y + 1)) x

/-- `TileCache[t][y][x]`: "the cache always equals the decode function" of the current VRAM, so it is computed from VRAM
(R52, R66; log 6). -/
def State.tileCache (s : State) (t y x : Nat) : BitVec 2 := s.tileDecode t y x

/-! ## Palettes -/

/-- The shade a palette register gives a colour index: `(P >> (2*c)) & 3` (R48). -/
def shadeOf (p : Byte) (c : BitVec 2) : BitVec 2 := p.extractLsb' (2 * c.toNat) 2

/-- `ShadeRGB(s)` (R12, R333). -/
def shadeRGB (t : Shades) (s : BitVec 2) : RGB :=
  match s.toNat with
  | 0 => t.s0
  | 1 => t.s1
  | 2 => t.s2
  | _ => t.s3

/-- The RGB triple of a colour index through a palette register. -/
def State.colour (s : State) (p : Byte) (c : BitVec 2) : RGB := shadeRGB s.params.shades (shadeOf p c)

/-! ## The background -/

/-- `BgTile(idx)` (R331). -/
def bgTile (lcdc idx : Byte) : Nat :=
  if lcdc.getLsbD 4 then idx.toNat else if idx.toNat < 128 then idx.toNat + 256 else idx.toNat

/-- The VRAM offset of the active tile map (R46, R330). -/
def mapBase (lcdc : Byte) : Nat := if lcdc.getLsbD 3 then 0x1C00 else 0x1800

/-- The background colour index of column x of line LY (R330). -/
def State.bgIndex (s : State) (x : Nat) : BitVec 2 :=
  let y := (s.ppu.ly.toNat + s.ppu.scy.toNat) % 256
  let px := (x + s.ppu.scx.toNat) % 256
  let idx := s.vram (mapBase s.ppu.lcdc + (y / 8) * 32 + px / 8)
  s.tileCache (bgTile s.ppu.lcdc idx) (y % 8) (px % 8)

/-- `bg[0..159]` of line LY. -/
def State.bgLine (s : State) : List (BitVec 2) := (List.range 160).map s.bgIndex

/-! ## Sprites -/

/-- A sprite entry of OAM, "Y, X, tile index, attribute byte" (R70). -/
structure Sprite where
  y : Byte
  x : Byte
  tile : Byte
  attr : Byte
  deriving DecidableEq, Repr

/-- Sprite entry i (R70, R332). -/
def State.sprite (s : State) (i : Nat) : Sprite :=
  { y := s.oam (4 * i), x := s.oam (4 * i + 1), tile := s.oam (4 * i + 2), attr := s.oam (4 * i + 3) }

/-- Screen row and column of a sprite, which may be negative (R332). -/
def Sprite.sy (p : Sprite) : Int := (p.y.toNat : Int) - 16
def Sprite.sx (p : Sprite) : Int := (p.x.toNat : Int) - 8

/-- The bounding box, 8 pixels tall, intersects the line (R332). -/
def Sprite.onLine (p : Sprite) (ly : Byte) : Bool :=
  decide (p.sy ≤ (ly.toNat : Int)) && decide ((ly.toNat : Int) < p.sy + 8)

/-- The tile row shown on the line: attribute bit 6 flips vertically (R332). -/
def Sprite.tileRow (p : Sprite) (ly : Byte) : Nat :=
  let row := ((ly.toNat : Int) - p.sy).toNat
  if p.attr.getLsbD 6 then 7 - row else row

/-- The tile column of sprite column col: attribute bit 5 flips horizontally (R332). -/
def Sprite.tileCol (p : Sprite) (col : Nat) : Nat := if p.attr.getLsbD 5 then 7 - col else col

/-- The palette register: attribute bit 4 (R332). -/
def State.spritePalette (s : State) (p : Sprite) : Byte := if p.attr.getLsbD 4 then s.ppu.obp1 else s.ppu.obp0

/-- Sprite column col drawn over the line: off-screen columns are dropped, index 0 is transparent, and with attribute
bit 7 set it shows only where the background index is 0 (R332). -/
def State.drawColumn (s : State) (bg : List (BitVec 2)) (p : Sprite) (line : List RGB) (col : Nat) : List RGB :=
  let x : Int := p.sx + col
  if 0 ≤ x ∧ x < 160 then
    let c := s.tileCache p.tile.toNat (p.tileRow s.ppu.ly) (p.tileCol col)
    if c ≠ 0 ∧ (p.attr.getLsbD 7 = false ∨ bg.getD x.toNat 0 = 0) then
      line.set x.toNat (s.colour (s.spritePalette p) c)
    else line
  else line

/-- Sprite entry i drawn over the line (R332). -/
def State.drawSprite (s : State) (bg : List (BitVec 2)) (line : List RGB) (i : Nat) : List RGB :=
  let p := s.sprite i
  if p.onLine s.ppu.ly then (List.range 8).foldl (s.drawColumn bg p) line else line

/-- `RenderSprites(bg)`: entries 0 to 39, later ones over earlier ones (R332). -/
def State.drawSprites (s : State) (bg : List (BitVec 2)) (line : List RGB) : List RGB :=
  (List.range 40).foldl (s.drawSprite bg) line

/-- The pixels of line LY (R330, R332). -/
def State.renderedLine (s : State) : List RGB :=
  s.drawSprites s.bgLine (s.bgLine.map (s.colour s.ppu.bgp))

/-- `RenderLine()` (R330). -/
def State.renderLine (s : State) : State :=
  { s with ppu.frame := s.ppu.frame.setRow s.ppu.ly.toNat s.renderedLine }

/-! ## Modes -/

/-- The ticks after which a mode is left (R324). -/
def threshold : PpuMode → Nat
  | .oamSearch => 80
  | .pixelTransfer => 172
  | .hBlank => 204
  | .vBlank => 456

/-- H-blank → next line: LY + 1; at 144 the V-blank request, made only when IE bit 0 is set, and V-blank (R328; C1). -/
def State.nextLine (s : State) : State :=
  let s1 := { s with ppu.ly := s.ppu.ly + 1 }
  if s1.ppu.ly = 144 then
    let s2 := if s1.irq.ie.getLsbD 0 then { s1 with irq.ifr := s1.irq.ifr ||| 1 } else s1
    { s2 with ppu.mode := .vBlank }
  else { s1 with ppu.mode := .oamSearch }

/-- A line of V-blank: LY + 1; past 153 back to line 0 and OAM-search (R329). -/
def State.nextBlankLine (s : State) : State :=
  if s.ppu.ly.toNat + 1 > 153 then { s with ppu.ly := 0, ppu.mode := .oamSearch }
  else { s with ppu.ly := s.ppu.ly + 1 }

/-- `Transition(mode)` (R326 to R329). -/
def State.transition (s : State) : State :=
  match s.ppu.mode with
  | .oamSearch => { s with ppu.mode := .pixelTransfer }
  | .pixelTransfer => { s with ppu.mode := .hBlank }.renderLine
  | .hBlank => s.nextLine
  | .vBlank => s.nextBlankLine

/-- The ticks since the last video-unit step are taken into `acc` (R325). -/
def State.consumeTicks (s : State) : State :=
  { s with ppu.seen := s.disp.ticks, ppu.acc := s.ppu.acc + (s.disp.ticks - s.ppu.seen) }

/-- `PpuStep()` of R325: at most one transition, the remainder stays in `acc`. -/
def State.ppuStep (s : State) : State :=
  let s1 := s.consumeTicks
  if threshold s1.ppu.mode ≤ s1.ppu.acc then
    { s1 with ppu.acc := s1.ppu.acc - threshold s1.ppu.mode }.transition
  else s1

/-- A frame is complete at the H-blank → V-blank transition, whether or not the request is made (R334): the frame the
presentation collaborator reads when a step goes from `s` to `t`. -/
def frameCompletes (s t : State) : Option Frame :=
  if s.ppu.mode = .hBlank ∧ t.ppu.mode = .vBlank then some t.ppu.frame else none

end Sys2Proof.Machine
end

