-- ==== Sys2Proof/Machine/Dispatcher.lean ====
section
/-! DEFINITION. The dispatcher step and the core step (40_dispatcher.md R120 to R130), and placing an instruction where
the next fetch reads it. -/

namespace Sys2Proof.Machine

/-- The byte at PC + i, as a fetch reads it (R125, R126). -/
def State.fetchByte (s : State) (i : Nat) : Byte := s.readByte .fetch (s.regs.pc + BitVec.ofNat 16 i)

/-- The three bytes from PC on. An instruction uses as many of them as its length has; reading the others changes nothing
(R85; log 9). -/
def State.fetchBytes (s : State) : List Byte := [s.fetchByte 0, s.fetchByte 1, s.fetchByte 2]

/-- The instruction at PC (R122, R125). -/
def State.fetchInstr (s : State) : Instr := decode3 (s.fetchByte 0) (s.fetchByte 1) (s.fetchByte 2)

/-- PC past the fetched bytes, each fetch advancing it by 1 modulo 2^16 (R125, R126); the next button draw (log 3). -/
def State.afterFetch (s : State) (n : Nat) : State :=
  { s with regs.pc := s.regs.pc + BitVec.ofNat 16 n, host.draws := s.host.draws + 1 }

/-- Fetch, decode and execute one instruction (R122, R125 to R128). -/
def State.executeNext (s : State) : Result :=
  exec s.fetchInstr (s.afterFetch (opLength (s.fetchByte 0)).toNat)

/-- The halted part of `DispatcherStep()`: idle ticks, or the wait ends and the same step executes (R122, R124). -/
def State.haltedStep (s : State) : Result :=
  if s.disp.halted then
    if s.pending then { s with disp.halted := false }.executeNext else .next (s.spend s.params.haltIdleTicks)
  else s.executeNext

/-- `DispatcherStep()` (R122, R123). -/
def State.dispatcherStep (s : State) : Result :=
  if s.disp.stopped then
    if s.pending then { s with disp.stopped := false }.haltedStep else .next s
  else s.haltedStep

/-- The rest of a core step: the video unit, then the interrupt controller, unless an undefined opcode stopped the core
(R120). -/
def State.finishStep (s : State) : State :=
  if s.disp.fault.isSome then s else s.ppuStep.interruptStep

/-- `CoreStep()` (R120): a faulted core does nothing (R130). -/
def State.coreStep (s : State) : Result :=
  if s.disp.fault.isSome then .next s
  else
    match s.dispatcherStep with
    | .next t => .next t.finishStep
    | .fault r => .fault r
    | .refused r => .refused r

/-! ## Placing an instruction (log 4) -/

/-- The address is storage, where a byte can be placed. -/
def isStorage (a : Word) : Bool :=
  match regionOf a with
  | .special _ => false
  | .rom | .vram | .eram | .wram | .echo | .oam | .hram | .io => true

/-- `s` with a byte placed in the storage at `a`, ROM included: what loading a program does (R363), not a bus write. -/
def State.place (s : State) (a : Word) (v : Byte) : State := s.setCell (storageKey a) v

/-- `s` about to fetch: no fault and no wait, and PC where three bytes can be placed (at the reset entry R93 if they
cannot be placed at PC). -/
def State.readyToFetch (s : State) : State :=
  let ok := isStorage s.regs.pc && isStorage (s.regs.pc + 1) && isStorage (s.regs.pc + 2)
  { s with
    regs.pc := if ok then s.regs.pc else 0x0100
    disp.fault := none
    disp.halted := false
    disp.stopped := false }

/-- The three bytes placed at PC. -/
def State.placeBytes (s : State) (b : Byte × Byte × Byte) : State :=
  ((s.place s.regs.pc b.1).place (s.regs.pc + 1) b.2.1).place (s.regs.pc + 2) b.2.2

/-! ## Values a run is read by -/

/-- A further core step changes no state, in the two cases of R121. -/
def State.quiescent (s : State) : Bool :=
  s.disp.fault.isSome ||
    (s.disp.stopped && !s.pending && decide (s.ppu.acc < threshold s.ppu.mode))

end Sys2Proof.Machine
end

