-- ==== Sys2Proof/Machine/Step.lean ====
section
/-! DEFINITION. The step of the machine, and placing an instruction where it fetches. -/

namespace Sys2Proof.Machine

/-- One core step (R120). -/
def step (s : State) : Host.Outcome State Fault Refusal := s.coreStep

/-- `s` with the instruction of a row of the opcode table placed where `step` fetches (log 4, log 7). -/
def State.withFetchWord (s : State) (nbits w : Nat) : State := s.readyToFetch.placeBytes (tableBytes nbits w)

end Sys2Proof.Machine
end

