-- ==== Sys2Proof/Safety.lean ====
section
/-! DEFINITION. The terms the statements use: a safe run, the invariant every step keeps, where an instruction stores, and
which instructions may write the control state. -/

namespace Sys2Proof.Machine

/-! ## Safe runs -/

/-- A safe state: no undefined opcode has stopped the core (R130, R310). -/
def State.safe (s : State) : Bool := s.disp.fault.isNone

/-- The state a step or a meaning gives, if it gives one. -/
def nextOf : Result → Option State
  | .next t => some t
  | .fault _ => none
  | .refused _ => none

/-! ## Flags -/

/-- F from its four flags: Z, N, H, C in bits 7 to 4 and 0 below (R32, R33). -/
def flagByte (z n h c : Bool) : Byte := BitVec.ofBool z ++ BitVec.ofBool n ++ BitVec.ofBool h ++ BitVec.ofBool c ++ 0#4

/-! ## Storage -/

/-- The address is storage that a bus write changes: neither ROM nor a special register (R61). -/
def isRam (a : Word) : Bool :=
  match regionOf a with
  | .rom | .special _ => false
  | .vram | .eram | .wram | .echo | .oam | .hram | .io => true

/-- A key a byte of the memory may be stored under: the address of a storage byte, the echo's being the working RAM's. -/
def isCellKey (k : Nat) : Bool :=
  decide (k < 0x10000) && isStorage (BitVec.ofNat 16 k) && decide (storageKey (BitVec.ofNat 16 k) = k)

/-! ## The invariant -/

/-- The undefined opcodes (R116, R306). -/
def undefinedOps : List Byte := [0xD3, 0xDB, 0xDD, 0xE3, 0xE4, 0xEB, 0xEC, 0xED, 0xF4, 0xFC, 0xFD]

/-- What is true of every state a run reaches: memory and frame buffer in canonical form, the low nibble of F clear (R32),
LY in range and V-blank exactly on lines 144 to 153 (R45, R329), `seen` never past T and equal to it while stopped (R325,
R123), a halt only under IME (R301), one wait at a time, and a fault's address in PC (R130). -/
structure State.Inv (s : State) : Prop where
  memory : s.bus.mem.wf
  keys : ∀ p ∈ s.bus.mem, isCellKey p.1 = true
  frame : s.ppu.frame.wf
  flags : s.regs.f &&& 0x0F = 0
  line : s.ppu.ly.toNat ≤ 153
  blank : s.ppu.mode = .vBlank ↔ 144 ≤ s.ppu.ly.toNat
  seen : s.ppu.seen ≤ s.disp.ticks
  stoppedSeen : s.disp.stopped = true → s.ppu.seen = s.disp.ticks
  haltedIme : s.disp.halted = true → s.irq.ime = true
  oneWait : ¬(s.disp.halted = true ∧ s.disp.stopped = true)
  faultAt : ∀ op a, s.disp.fault = some (.undefinedOpcode op a) → op ∈ undefinedOps ∧ s.regs.pc = a

/-- Every instruction and every idle step costs something: true of the default costs (R135 to R137). -/
def positiveCosts (p : Params) : Bool :=
  (List.range 256).all (fun op => decide (BitVec.ofNat 8 op ∈ undefinedOps) || decide (0 < p.costBase.getD op 0)) &&
    decide (0 < p.haltIdleTicks)

/-! ## What a step does -/

/-- The step runs an instruction: the core is not faulted, and it is in no wait or a pending interrupt ends the wait (R122,
R130). -/
def State.runsInstr (s : State) : Bool :=
  s.disp.fault.isNone && (s.pending || (!s.disp.stopped && !s.disp.halted))

/-- The interrupt entry at the end of the step from `s` to `t`: `u` is the state the interrupt controller finds, after the
dispatcher and the video unit (R120), and `t` is the entry of its chosen source `i` (R313, R315). -/
def entersInterrupt (s u : State) (i : IntSource) (t : State) : Prop :=
  (∃ r, s.dispatcherStep = .next r ∧ r.disp.fault = none ∧ u = r.ppuStep) ∧
    u.irq.ime = true ∧ u.chosenSource = some i ∧ t = u.takeInterrupt i

/-! ## Where an instruction stores -/

/-- The two bytes a push stores to: SP - 2 and SP - 1 (R81). -/
def stackSlot (s : State) : List Word := [s.regs.sp - 2, s.regs.sp - 2 + 1]

/-- The addresses an instruction writes, in order, from the state its meaning starts in (the rules of 41 to 48). -/
def storedAddrs (i : Instr) (s : State) : List Word :=
  match i with
  | .ld_mHL_B | .ld_mHL_C | .ld_mHL_D | .ld_mHL_E | .ld_mHL_H | .ld_mHL_L | .ld_mHL_A | .ld_mHL_n8 _
  | .ld_mHLi_A | .ld_mHLd_A | .inc_mHL | .dec_mHL | .rlc_mHL | .rrc_mHL | .rl_mHL | .rr_mHL | .sla_mHL
  | .sra_mHL | .swap_mHL | .srl_mHL | .res_0_mHL | .res_1_mHL | .res_2_mHL | .res_3_mHL | .res_4_mHL
  | .res_5_mHL | .res_6_mHL | .res_7_mHL | .set_0_mHL | .set_1_mHL | .set_2_mHL | .set_3_mHL | .set_4_mHL
  | .set_5_mHL | .set_6_mHL | .set_7_mHL => [s.getHL]
  | .ld_mBC_A => [s.getBC]
  | .ld_mDE_A => [s.getDE]
  | .ld_ma16_A a => [a]
  | .ldh_ma8_A a => [highPage a]
  | .ld_mC_A => [highPage s.regs.c]
  | .ld_ma16_SP a => [a, a + 1]
  | .push_BC | .push_DE | .push_HL | .push_AF | .call_a16 _ | .rst_00H | .rst_08H | .rst_10H | .rst_18H
  | .rst_20H | .rst_28H | .rst_30H | .rst_38H => stackSlot s
  | .call_NZ_a16 _ => if s.cond .NZ then stackSlot s else []
  | .call_Z_a16 _ => if s.cond .Z then stackSlot s else []
  | .call_NC_a16 _ => if s.cond .NC then stackSlot s else []
  | .call_C_a16 _ => if s.cond .C then stackSlot s else []
  | .prefix_CB op2 => if op2.extractLsb' 0 3 = 6 ∧ op2.extractLsb' 6 2 ≠ 1 then [s.getHL] else []
  | _ => []

/-- `a` may read differently after a store to the addresses of `l`: it names the same byte as one of them, or one of them
is 0xFF46 and it is one of the 160 bytes of the OAM copy (R69, R74). -/
def reached (l : List Word) (a : Word) : Bool :=
  l.any (fun b => decide (storageKey b = storageKey a)) ||
    (decide (0xFF46 ∈ l) && decide (0xFE00 ≤ a.toNat) && decide (a.toNat < 0xFEA0))

/-! ## Control -/

/-- The control transfers (R281 to R291): with HALT and the undefined opcodes, the instructions whose meaning writes PC. -/
def isTransfer (i : Instr) : Bool :=
  match i with
  | .jp_a16 _ | .jp_NZ_a16 _ | .jp_Z_a16 _ | .jp_NC_a16 _ | .jp_C_a16 _ | .jp_HL | .jr_e8 _ | .jr_NZ_e8 _
  | .jr_Z_e8 _ | .jr_NC_e8 _ | .jr_C_e8 _ | .call_a16 _ | .call_NZ_a16 _ | .call_Z_a16 _ | .call_NC_a16 _
  | .call_C_a16 _ | .ret | .reti | .ret_NZ | .ret_Z | .ret_NC | .ret_C | .rst_00H | .rst_08H | .rst_10H
  | .rst_18H | .rst_20H | .rst_28H | .rst_30H | .rst_38H => true
  | _ => false

/-- The undefined rows (R306). -/
def isUndefined (i : Instr) : Bool :=
  match i with
  | .undefined_D3 | .undefined_DB | .undefined_DD | .undefined_E3 | .undefined_E4 | .undefined_EB
  | .undefined_EC | .undefined_ED | .undefined_F4 | .undefined_FC | .undefined_FD => true
  | _ => false

end Sys2Proof.Machine
end

