-- ==== Sys2Proof/Certificates/Slice0/Obligations.lean ====
section
/-! DEFINITION. The statements about the model, for the provers. OBLIGATIONS.json lists them in this order. A cost in a
conclusion is an entry of the state's own cost table; where a rule gives a number, the number holds under the default
tables (`s.params = defaultParams`), which are a decision of the spec (D2 to D4, log 32). -/

open Sys2Proof Sys2Proof.Machine

/-! ## Encoding -/

/-- Every well-formed instruction, with every operand, is read back from its own bytes, whatever follows them
(R100, R109, R110, R119). -/
def Obligations.DecodeEncode : Prop :=
  ∀ (i : Instr) (rest : List Byte), i.wellFormed = true → decode (encode i ++ rest) = .ok (i, rest)

/-- Bytes that decode are the encoding of what they decode to, so no two encodings overlap and no byte is dropped
(R100, R110, R119). -/
def Obligations.EncodeDecode : Prop :=
  ∀ (bs : List Byte) (i : Instr) (rest : List Byte),
    decode bs = .ok (i, rest) → i.wellFormed = true ∧ encode i ++ rest = bs

/-- The decoder rejects only what is too short: nothing at all, or fewer bytes than the first announces (R110, R116). -/
def Obligations.DecodeRejects : Prop :=
  ∀ bs : List Byte,
    (decode bs = .error .noBytes ↔ bs = []) ∧
    (∀ op, decode bs = .error (.truncated op) ↔ ∃ rest, bs = op :: rest ∧ rest.length + 1 < (opLength op).toNat)

/-- One word of each quadrant and family, written out from R111 to R116 and R109. -/
def Obligations.SampleWords : Prop :=
  decode [0x00] = .ok (.nop, []) ∧
  decode [0b01111000] = .ok (.ld_A_B, []) ∧
  decode [0b00110110, 0x5A] = .ok (.ld_mHL_n8 0x5A, []) ∧
  decode [0b00000001, 0x34, 0x12] = .ok (.ld_BC_n16 0x1234, []) ∧
  decode [0b11110101] = .ok (.push_AF, []) ∧
  decode [0b10001110] = .ok (.adc_A_mHL, []) ∧
  decode [0b11111110, 0x3C] = .ok (.cp_n8 0x3C, []) ∧
  decode [0b00101001] = .ok (.add_HL_HL, []) ∧
  decode [0b00011111] = .ok (.rra, []) ∧
  decode [0b00100000, 0xFC] = .ok (.jr_NZ_e8 0xFC, []) ∧
  decode [0b11101111] = .ok (.rst_28H, []) ∧
  decode [0b01110110] = .ok (.halt, []) ∧
  decode [0b11010011] = .ok (.undefined_D3, []) ∧
  decode [0xCB, 0b00110111] = .ok (.swap_A, []) ∧
  decode [0xCB, 0b01100110] = .ok (.bit_4_mHL, []) ∧
  decode [0xCB, 0xCB] = .ok (.set_1_E, [])

/-- `withFetchWord` (log 4, log 7): from a canonical memory the very next fetch reads exactly the placed bytes, the core is
running, PC stands where the three addresses from it are storage and else is the reset entry, and apart from that nothing
has changed: every address that names none of the three placed bytes reads as before. The placing of a program is the
model's choice. -/
def Obligations.FetchWordPlaced : Prop :=
  ∀ (s : State) (nbits w : Nat), s.bus.mem.wf →
    let t := s.withFetchWord nbits w
    let b := tableBytes nbits w
    t.fetchByte 0 = b.1 ∧ t.fetchByte 1 = b.2.1 ∧ t.fetchByte 2 = b.2.2 ∧
    t.fetchInstr = decode3 b.1 b.2.1 b.2.2 ∧
    (8 < nbits → decodeTableWord nbits w = some t.fetchInstr) ∧
    t = { s with
      bus.mem := t.bus.mem, regs.pc := t.regs.pc, disp.halted := false, disp.stopped := false, disp.fault := none } ∧
    t.regs.pc =
      (if isStorage s.regs.pc ∧ isStorage (s.regs.pc + 1) ∧ isStorage (s.regs.pc + 2) then s.regs.pc else 0x0100) ∧
    (∀ (k : Access) (a : Word),
      storageKey a ∉ [storageKey t.regs.pc, storageKey (t.regs.pc + 1), storageKey (t.regs.pc + 2)] →
      t.readByte k a = s.readByte k a)

/-! ## Registers -/

/-- The pair views (R31): which half is which, what writing a pair writes, and the round trips (AF up to its low nibble). -/
def Obligations.PairViews : Prop :=
  ∀ (s : State) (v : Word),
    s.getAF = s.regs.a ++ s.getF ∧ s.getBC = s.regs.b ++ s.regs.c ∧ s.getDE = s.regs.d ++ s.regs.e ∧
    s.getHL = s.regs.h ++ s.regs.l ∧
    s.setBC v = { s with regs.b := v.extractLsb' 8 8, regs.c := v.extractLsb' 0 8 } ∧
    s.setDE v = { s with regs.d := v.extractLsb' 8 8, regs.e := v.extractLsb' 0 8 } ∧
    s.setHL v = { s with regs.h := v.extractLsb' 8 8, regs.l := v.extractLsb' 0 8 } ∧
    s.setAF v = { s with regs.a := v.extractLsb' 8 8, regs.f := v.extractLsb' 4 4 ++ 0#4 } ∧
    (s.setBC v).getBC = v ∧ (s.setDE v).getDE = v ∧ (s.setHL v).getHL = v ∧
    ((s.setAF v).getAF = v ↔ v.extractLsb' 0 4 = 0)

/-- Writing one 8-bit register changes that register and nothing else (R16, R30). -/
def Obligations.RegisterWrite : Prop :=
  ∀ (s : State) (d r : Reg8) (v : Byte),
    (s.setR d v).getR r = (if r = d then v else s.getR r) ∧
    (s.setR d v).regs.f = s.regs.f ∧ (s.setR d v).regs.sp = s.regs.sp ∧ (s.setR d v).regs.pc = s.regs.pc ∧
    (s.setR d v).irq = s.irq ∧ (s.setR d v).disp = s.disp ∧ (s.setR d v).ppu = s.ppu ∧ (s.setR d v).bus = s.bus ∧
    (s.setR d v).host = s.host ∧ (s.setR d v).params = s.params

/-- Every write of F masks the low nibble and every read of F gives it as 0 (R32); the flag accessors (R34). -/
def Obligations.FlagRegister : Prop :=
  ∀ (s : State) (v mask : Byte) (b : Bool) (w : Word),
    s.getF &&& 0x0F = 0 ∧ (s.setF v).regs.f = v &&& 0xF0 ∧ (s.setAF w).regs.f = w.extractLsb' 0 8 &&& 0xF0 ∧
    (s.getFlag mask = true ↔ s.regs.f &&& mask ≠ 0) ∧
    (s.setFlag mask true).regs.f = (s.regs.f ||| mask) &&& 0xF0 ∧
    (s.setFlag mask false).regs.f = (s.regs.f &&& ~~~mask) &&& 0xF0 ∧
    s.setFlag mask b = { s with regs.f := (s.setFlag mask b).regs.f } ∧
    zMask = 0x80 ∧ nMask = 0x40 ∧ hMask = 0x20 ∧ cMask = 0x10

/-! ## The bus -/

/-- Storage (R64, R65, R68, R70, R71, R79, R87): after a write to storage, an address that names the same byte reads the
value written, and every other address reads as before. The region boundaries are decision D5 (log 13). -/
def Obligations.StorageReadBack : Prop :=
  ∀ (s : State) (k : Access) (a b : Word) (v : Byte), s.bus.mem.wf → isRam a = true →
    (s.writeByte a v).readByte k b = if storageKey b = storageKey a then v else s.readByte k b

/-- The echo of working RAM (R69): the source's property both ways, over the whole mirrored range. -/
def Obligations.EchoMirror : Prop :=
  ∀ (s : State) (k : Access) (a : Word) (x : Byte), s.bus.mem.wf → 0xC000 ≤ a.toNat → a.toNat ≤ 0xDDFF →
    (s.writeByte a x).readByte k (a + 0x2000) = x ∧ (s.writeByte (a + 0x2000) x).readByte k a = x ∧
    s.readByte k (a + 0x2000) = s.readByte k a ∧ s.writeByte (a + 0x2000) x = s.writeByte a x

/-- The special registers (R63, R72, R73, R75, R76, R78): what each address reads and writes, and the writes without
effect. The addresses and the read-back are decisions D6 to D11 and D13 (logs 13 to 18). -/
def Obligations.BusRegisters : Prop :=
  ∀ (s : State) (k : Access) (a : Word) (v : Byte),
    (a.toNat < 0x8000 → s.writeByte a v = s) ∧
    s.writeByte 0xFF44 v = s ∧ s.readByte k 0xFF44 = s.ppu.ly ∧
    s.writeByte 0xFF0F v = { s with irq.ifr := v.extractLsb' 0 5 } ∧ s.readByte k 0xFF0F = 0#3 ++ s.irq.ifr ∧
    s.writeByte 0xFFFF v = { s with irq.ie := v.extractLsb' 0 5 } ∧ s.readByte k 0xFFFF = 0#3 ++ s.irq.ie ∧
    s.writeByte 0xFF40 v = { s with ppu.lcdc := v } ∧ s.readByte k 0xFF40 = s.ppu.lcdc ∧
    s.writeByte 0xFF42 v = { s with ppu.scy := v } ∧ s.readByte k 0xFF42 = s.ppu.scy ∧
    s.writeByte 0xFF43 v = { s with ppu.scx := v } ∧ s.readByte k 0xFF43 = s.ppu.scx ∧
    s.writeByte 0xFF47 v = { s with ppu.bgp := v } ∧ s.readByte k 0xFF47 = s.ppu.bgp ∧
    s.writeByte 0xFF48 v = { s with ppu.obp0 := v } ∧ s.readByte k 0xFF48 = s.ppu.obp0 ∧
    s.writeByte 0xFF49 v = { s with ppu.obp1 := v } ∧ s.readByte k 0xFF49 = s.ppu.obp1 ∧
    s.readByte k 0xFF46 = s.bus.dma ∧
    s.writeByte 0xFF00 v = { s with bus.joysel := v.extractLsb' 4 2 }

/-- What no bus write changes (R61, R85): the registers, IME, the dispatcher, the video unit's mode, LY, counters and
frame buffer, the host's input and the parameters; and a byte of memory it does not reach. -/
def Obligations.BusWriteFrame : Prop :=
  ∀ (s : State) (k : Access) (a b : Word) (v : Byte),
    let t := s.writeByte a v
    t.regs = s.regs ∧ t.irq.ime = s.irq.ime ∧ t.disp = s.disp ∧ t.host = s.host ∧ t.params = s.params ∧
    t.ppu.mode = s.ppu.mode ∧ t.ppu.ly = s.ppu.ly ∧ t.ppu.acc = s.ppu.acc ∧ t.ppu.seen = s.ppu.seen ∧
    t.ppu.frame = s.ppu.frame ∧ (reached [a] b = false → t.readByte k b = s.readByte k b)

/-- OAM DMA (R74, R336, R370; D12, log 17): DMA takes the value, each of the 160 bytes of OAM becomes what the source
address reads, and every byte that is not one of them reads as before (but the DMA register). -/
def Obligations.OamDmaCopy : Prop :=
  ∀ (s : State) (v : Byte), s.bus.mem.wf →
    let t := s.writeByte 0xFF46 v
    t.bus.dma = v ∧
    (∀ i, i < 160 → t.oam i = ({ s with bus.dma := v } : State).readByte .dma ((v ++ 0#8) + BitVec.ofNat 16 i)) ∧
    (∀ (k : Access) (a : Word), a ≠ 0xFF46 → ¬(0xFE00 ≤ a.toNat ∧ a.toNat < 0xFEA0) → t.readByte k a = s.readByte k a) ∧
    t = { s with bus.dma := v, bus.mem := t.bus.mem }

/-- The joypad register (R77, R335; D13, D14, log 18): by the selection latch, directions, actions or 0xFF; a pressed
button reads 0; the buttons are the host's, or a free value. -/
def Obligations.JoypadRead : Prop :=
  ∀ (s : State) (k : Access) (b : Buttons), s.sampleButtons k = b →
    (s.bus.joysel = 0b10 → s.readByte k 0xFF00 =
      0xE#4 ++ BitVec.ofBool (!b.down) ++ BitVec.ofBool (!b.up) ++ BitVec.ofBool (!b.left) ++ BitVec.ofBool (!b.right)) ∧
    (s.bus.joysel = 0b01 → s.readByte k 0xFF00 =
      0xD#4 ++ BitVec.ofBool (!b.start) ++ BitVec.ofBool (!b.select) ++ BitVec.ofBool (!b.b) ++ BitVec.ofBool (!b.a)) ∧
    (s.bus.joysel = 0b11 → s.readByte k 0xFF00 = 0xFF) ∧ (s.bus.joysel = 0b00 → s.readByte k 0xFF00 = 0xFF) ∧
    (∀ h, s.host.buttons = some h → s.sampleButtons k = h)

/-- 16-bit accesses and the stack (R80, R81; D34, D35, log 30): on RAM a word reads back as written, and a pop after a
push gives the value and SP back. -/
def Obligations.WordsAndStack : Prop :=
  ∀ (s : State) (a v : Word), s.bus.mem.wf →
    (isRam a = true → isRam (a + 1) = true →
      (s.writeShort a v).readByte .data a = v.extractLsb' 0 8 ∧
      (s.writeShort a v).readByte .data (a + 1) = v.extractLsb' 8 8 ∧ (s.writeShort a v).readShort .data a = v) ∧
    (isRam (s.regs.sp - 2) = true → isRam (s.regs.sp - 1) = true →
      (s.push v).regs.sp = s.regs.sp - 2 ∧ (s.push v).top = v ∧ (s.push v).dropTop.regs.sp = s.regs.sp)

/-- The tile cache after a write to the tile region (R66): the written row decodes from the byte written and its
partner, equals the decode of the VRAM just written, and every other row stands. -/
def Obligations.TileRowDecoded : Prop :=
  ∀ (s : State) (a : Word) (v : Byte), s.bus.mem.wf → 0x8000 ≤ a.toNat → a.toNat ≤ 0x97FF →
    let o := a.toNat - 0x8000
    let t := s.writeByte a v
    (∀ x, x < 8 → t.tileCache (o / 16) (o / 2 % 8) x =
        (if o % 2 = 0 then planePixel v (s.vram (o + 1)) x else planePixel (s.vram (o - 1)) v x) ∧
      t.tileCache (o / 16) (o / 2 % 8) x = t.tileDecode (o / 16) (o / 2 % 8) x) ∧
    (∀ n y x, n < 384 → y < 8 → ¬(n = o / 16 ∧ y = o / 2 % 8) → t.tileCache n y x = s.tileCache n y x)

/-! ## The core step -/

/-- A step runs the decoded instruction (R120, R122, R125, R126): when the bytes at PC decode to `i`, the step is `exec i`
with PC past the bytes of `i` (and the next button draw, log 3), then, unless it faulted, the video unit and the interrupt
controller. -/
def Obligations.StepRunsDecoded : Prop :=
  ∀ (s : State) (i : Instr) (rest : List Byte),
    s.disp.fault = none → s.disp.stopped = false → s.disp.halted = false →
    decode [s.readByte .fetch s.regs.pc, s.readByte .fetch (s.regs.pc + 1), s.readByte .fetch (s.regs.pc + 2)]
      = .ok (i, rest) →
    step s =
      match exec i { s with
        regs.pc := s.regs.pc + BitVec.ofNat 16 (encode i).length, host.draws := s.host.draws + 1 } with
      | .next t => .next (if t.disp.fault.isSome then t else t.ppuStep.interruptStep)
      | .fault r => .fault r
      | .refused r => .refused r

/-- Every constructor of Instr completes in every state, and so does every step: the operations are total (R18). That this
holds of the eleven undefined opcodes too is the model's choice: log 1 has them answer a next state in which the fault
stands recorded (R43, R130). -/
def Obligations.EveryInstructionCompletes : Prop :=
  (∀ (i : Instr) (s : State), ∃ t, exec i s = .next t) ∧ ∀ s : State, ∃ t, step s = .next t

/-- The eleven undefined opcodes (R306, R130, R317; D33, log 29): PC backs up to the byte, the fault is recorded, nothing
else changes, the video unit and the interrupt controller do not step, and the core then stands still for good. -/
def Obligations.UndefinedOpcodes : Prop :=
  (∀ (op : Byte) (i : Instr) (s : State), (op, i) ∈ Instr.undefinedRows →
    encode i = [op] ∧
    exec i s = .next { s with regs.pc := s.regs.pc - 1, disp.fault := some (.undefinedOpcode op (s.regs.pc - 1)) }) ∧
  (∀ (op : Byte) (s : State), s.disp.fault = none → s.disp.stopped = false → s.disp.halted = false →
    s.readByte .fetch s.regs.pc = op → op ∈ undefinedOps →
    step s = .next { s with
      disp.fault := some (.undefinedOpcode op s.regs.pc), host.draws := s.host.draws + 1 }) ∧
  (∀ (f : Fault) (s : State), s.disp.fault = some f → step s = .next s)

/-- The two waits (R122 to R124; D29 to D31, logs 26, 27): a stopped core adds no tick, a halted one HaltIdleTicks, and a
pending interrupt ends the wait so that the same step runs the next instruction. -/
def Obligations.Waits : Prop :=
  ∀ s : State, s.disp.fault = none →
    (s.disp.stopped = true → s.pending = false → step s = .next s.ppuStep.interruptStep) ∧
    (s.disp.stopped = true → s.pending = true → step s = step { s with disp.stopped := false }) ∧
    (s.disp.stopped = false → s.disp.halted = true → s.pending = false →
      step s = .next ({ s with disp.ticks := s.disp.ticks + s.params.haltIdleTicks } : State).ppuStep.interruptStep) ∧
    (s.disp.stopped = false → s.disp.halted = true → s.pending = true →
      step s = step { s with disp.halted := false }) ∧
    (s.pending = true ↔ s.irq.ie &&& s.irq.ifr ≠ 0)

/-- Quiescence (R121; D42): with positive costs a step leaves the state as it is exactly when the core is faulted, or
stopped with nothing pending and the video unit below its threshold. The premise on `seen` is a clause of the invariant. -/
def Obligations.Quiescence : Prop :=
  ∀ s : State, positiveCosts s.params = true → (s.disp.stopped = true → s.ppu.seen = s.disp.ticks) →
    (s.quiescent = true ↔ step s = .next s)

/-! ## The video unit -/

/-- The transitions that render nothing (R326, R328, R329), each with all that it changes: to pixel-transfer; to the next
line, or at line 144 to V-blank with the request if IE bit 0 is set; through V-blank and back to line 0. -/
def Obligations.ModeTransitions : Prop :=
  ∀ s : State,
    (s.ppu.mode = .oamSearch → s.transition = { s with ppu.mode := .pixelTransfer }) ∧
    (s.ppu.mode = .hBlank → s.ppu.ly + 1 ≠ 144 →
      s.transition = { s with ppu.ly := s.ppu.ly + 1, ppu.mode := .oamSearch }) ∧
    (s.ppu.mode = .hBlank → s.ppu.ly + 1 = 144 →
      s.transition = { s with
        ppu.ly := 144, ppu.mode := .vBlank,
        irq.ifr := if s.irq.ie.getLsbD 0 then s.irq.ifr ||| 1 else s.irq.ifr }) ∧
    (s.ppu.mode = .vBlank → s.ppu.ly.toNat < 153 → s.transition = { s with ppu.ly := s.ppu.ly + 1 }) ∧
    (s.ppu.mode = .vBlank → 153 ≤ s.ppu.ly.toNat → s.transition = { s with ppu.ly := 0, ppu.mode := .oamSearch })

/-- The video-unit step (R325, R327; D20, log 21): the ticks since the last one are taken, the thresholds are 80, 172, 204
and 456, at most one transition happens and the remainder stays; the one into H-blank renders the line. -/
def Obligations.VideoStep : Prop :=
  ∀ (s : State) (d : Nat), s.disp.ticks = s.ppu.seen + d →
    let limit := match s.ppu.mode with
      | .oamSearch => 80
      | .pixelTransfer => 172
      | .hBlank => 204
      | .vBlank => 456
    (s.ppu.acc + d < limit → s.ppuStep = { s with ppu.seen := s.disp.ticks, ppu.acc := s.ppu.acc + d }) ∧
    (limit ≤ s.ppu.acc + d → s.ppuStep =
      ({ s with ppu.seen := s.disp.ticks, ppu.acc := s.ppu.acc + d - limit } : State).transition) ∧
    (s.ppu.mode = .pixelTransfer → s.transition =
      { s with ppu.mode := .hBlank, ppu.frame := s.ppu.frame.setRow s.ppu.ly.toNat s.renderedLine })

/-- One pixel of a rendered line (R330 to R332; D21 to D25, logs 22, 23): the line loops of the renderer compute, at every
column, the sprite of the highest entry whose column shows there (on the line, covering the column, its index not 0, and
in front or over a background index 0), else the background, whose index comes from the map and the tile planes as the
bus reads them. No other line changes. -/
def Obligations.RenderedPixel : Prop :=
  ∀ (s : State), s.ppu.frame.wf →
    let fb := s.renderLine.ppu.frame
    let index (i x : Nat) : BitVec 2 :=
      let p := s.sprite i
      let col := x + 8 - p.x.toNat
      let row := s.ppu.ly.toNat + 16 - p.y.toNat
      s.tileDecode p.tile.toNat (if p.attr.getLsbD 6 then 7 - row else row) (if p.attr.getLsbD 5 then 7 - col else col)
    let shows (i x : Nat) : Prop :=
      let p := s.sprite i
      p.y.toNat ≤ s.ppu.ly.toNat + 16 ∧ s.ppu.ly.toNat + 16 < p.y.toNat + 8 ∧
      p.x.toNat ≤ x + 8 ∧ x + 8 < p.x.toNat + 8 ∧
      index i x ≠ 0 ∧ (p.attr.getLsbD 7 = false ∨ s.bgIndex x = 0)
    (∀ x, x < 160 →
      (∀ i, i < 40 → shows i x → (∀ j, i < j → j < 40 → ¬shows j x) →
        fb.pixel s.ppu.ly.toNat x =
          s.colour (if (s.sprite i).attr.getLsbD 4 then s.ppu.obp1 else s.ppu.obp0) (index i x)) ∧
      ((∀ i, i < 40 → ¬shows i x) → fb.pixel s.ppu.ly.toNat x = s.colour s.ppu.bgp (s.bgIndex x)) ∧
      (∀ (k : Access) (y px n : Nat), y = (s.ppu.ly.toNat + s.ppu.scy.toNat) % 256 → px = (x + s.ppu.scx.toNat) % 256 →
        n = (if s.ppu.lcdc.getLsbD 3 then 0x9C00 else 0x9800) + y / 8 * 32 + px / 8 →
        let idx := (s.readByte k (BitVec.ofNat 16 n)).toNat
        let tile := if s.ppu.lcdc.getLsbD 4 = false ∧ idx < 128 then idx + 256 else idx
        let base := 0x8000 + 16 * tile + 2 * (y % 8)
        s.bgIndex x = planePixel (s.readByte k (BitVec.ofNat 16 base)) (s.readByte k (BitVec.ofNat 16 (base + 1)))
          (px % 8))) ∧
    (∀ y, y ≠ s.ppu.ly.toNat → fb.row y = s.ppu.frame.row y)

/-- Sources 1 to 4 are never raised by hardware (R311, R340; D15, log 19): a bit of IF above 0 that is set after a step was
set before it, or the step ran an instruction that stores to 0xFF0F, or the interrupt entry that ended the step pushed over
it. The video unit sets no bit but bit 0, and that one only when it reaches line 144 with IE bit 0 set (R328, C1). -/
def Obligations.RequestsOnlyFromSoftware : Prop :=
  (∀ (s t : State) (n : Nat), step s = .next t → 1 ≤ n → t.irq.ifr.getLsbD n = true →
    s.irq.ifr.getLsbD n = true ∨
    s.runsInstr = true ∧ 0xFF0F ∈ storedAddrs s.fetchInstr (s.afterFetch (opLength (s.fetchByte 0)).toNat) ∨
    ∃ (u : State) (i : IntSource), entersInterrupt s u i t ∧ 0xFF0F ∈ stackSlot u) ∧
  (∀ s : State, s.ppuStep.irq.ifr = s.irq.ifr ∨
    s.ppu.mode = .hBlank ∧ s.ppu.ly = 143 ∧ s.irq.ie.getLsbD 0 = true ∧ s.ppuStep.irq.ifr = s.irq.ifr ||| 1)

/-! ## Interrupts -/

/-- The interrupt-controller step (R313): nothing unless IME, IE and IF are all non-zero, nothing when they are disjoint,
else the dispatch of the lowest bit set in both. -/
def Obligations.InterruptPriority : Prop :=
  ∀ s : State,
    (s.irq.ime = false ∨ s.irq.ie = 0 ∨ s.irq.ifr = 0 → s.interruptStep = s) ∧
    (s.irq.ie &&& s.irq.ifr = 0 → s.interruptStep = s) ∧
    (s.irq.ime = true → ∀ i : IntSource, (s.irq.ie &&& s.irq.ifr).getLsbD i.bit = true →
      (∀ j, j < i.bit → (s.irq.ie &&& s.irq.ifr).getLsbD j = false) → s.interruptStep = s.takeInterrupt i)

/-- Taking an interrupt (R315, R314; D31, logs 27, 37): the source's pending bit and IME are cleared, a wait ends, PC is
pushed low byte lower, PC becomes 0x40 + 8 i, 12 ticks are added, no other register is saved and F stands. -/
def Obligations.InterruptEntry : Prop :=
  ∀ (s : State) (i : IntSource),
    let u : State := { s with
      irq.ifr := s.irq.ifr &&& ~~~((1 : BitVec 5) <<< i.bit), irq.ime := false,
      disp.halted := false, disp.stopped := false, regs.sp := s.regs.sp - 2, host.draws := s.host.draws + 1 }
    let w := (u.writeByte (s.regs.sp - 2) (s.regs.pc.extractLsb' 0 8)).writeByte (s.regs.sp - 1) (s.regs.pc.extractLsb' 8 8)
    s.takeInterrupt i =
      { w with regs.pc := BitVec.ofNat 16 (0x40 + 8 * i.bit), disp.ticks := s.disp.ticks + 12 }

/-- RETI (R290, R318; D27, log 25), and that it undoes an interrupt entry whose stack slot is RAM: PC, SP and every other
register are those from before the entry, and IME is 1. -/
def Obligations.InterruptReturn : Prop :=
  (∀ s : State, encode .reti = [0b11011001] ∧ (s.params = defaultParams → s.costBase 0b11011001 = 16) ∧
    exec .reti s = .next { s with
      irq.ime := true, regs.pc := s.readByte .data (s.regs.sp + 1) ++ s.readByte .data s.regs.sp,
      regs.sp := s.regs.sp + 2, disp.ticks := s.disp.ticks + s.costBase 0b11011001 }) ∧
  (∀ (s : State) (i : IntSource), s.bus.mem.wf → isRam (s.regs.sp - 2) = true → isRam (s.regs.sp - 1) = true →
    ∃ t, exec .reti (s.takeInterrupt i) = .next t ∧ t.regs = s.regs ∧ t.irq.ime = true)

/-! ## Whole-machine frames -/

/-- EVERY instruction: a byte that its stores do not reach reads as before (R61, R69, R74, and the store of each rule of 41
to 48, whose addresses `storedAddrs` computes). -/
def Obligations.ExecStoresOnly : Prop :=
  ∀ (i : Instr) (s t : State) (k : Access) (a : Word), exec i s = .next t →
    reached (storedAddrs i s) a = false → t.readByte k a = s.readByte k a

/-- EVERY instruction: IME changes only by DI, EI and RETI, the waits only by HALT and STOP, the fault only by an undefined
opcode, PC only by a control transfer, HALT or an undefined opcode; IF, IE and the registers of the video unit and
the bus only by a store to their address; the video unit's mode, LY, counters and frame never (R37, R38, R41 to R43,
R51, R73 to R78). -/
def Obligations.ExecControlFrame : Prop :=
  ∀ (i : Instr) (s t : State), exec i s = .next t →
    (i ≠ .di → i ≠ .ei → i ≠ .reti → t.irq.ime = s.irq.ime) ∧
    (i ≠ .halt → t.disp.halted = s.disp.halted) ∧ ((∀ n, i ≠ .stop n) → t.disp.stopped = s.disp.stopped) ∧
    (isUndefined i = false → t.disp.fault = s.disp.fault) ∧
    (isTransfer i = false → i ≠ .halt → isUndefined i = false → t.regs.pc = s.regs.pc) ∧
    (0xFF0F ∉ storedAddrs i s → t.irq.ifr = s.irq.ifr) ∧ (0xFFFF ∉ storedAddrs i s → t.irq.ie = s.irq.ie) ∧
    (0xFF00 ∉ storedAddrs i s → t.bus.joysel = s.bus.joysel) ∧ (0xFF46 ∉ storedAddrs i s → t.bus.dma = s.bus.dma) ∧
    (0xFF40 ∉ storedAddrs i s → t.ppu.lcdc = s.ppu.lcdc) ∧ (0xFF42 ∉ storedAddrs i s → t.ppu.scy = s.ppu.scy) ∧
    (0xFF43 ∉ storedAddrs i s → t.ppu.scx = s.ppu.scx) ∧ (0xFF47 ∉ storedAddrs i s → t.ppu.bgp = s.ppu.bgp) ∧
    (0xFF48 ∉ storedAddrs i s → t.ppu.obp0 = s.ppu.obp0) ∧ (0xFF49 ∉ storedAddrs i s → t.ppu.obp1 = s.ppu.obp1) ∧
    t.ppu.mode = s.ppu.mode ∧ t.ppu.ly = s.ppu.ly ∧ t.ppu.acc = s.ppu.acc ∧ t.ppu.seen = s.ppu.seen ∧
    t.ppu.frame = s.ppu.frame ∧ t.host = s.host ∧ t.params = s.params

/-- T never decreases, and no step changes the parameters or what the host holds the buttons at (R44, R10, R12; D39,
log 33, log 2, log 3). -/
def Obligations.TicksNeverDecrease : Prop :=
  ∀ s t : State, step s = .next t →
    s.disp.ticks ≤ t.disp.ticks ∧ t.params = s.params ∧ t.host.buttons = s.host.buttons ∧
    (t.disp.fault.isSome = true → t.disp.ticks = s.disp.ticks)

/-- No step changes a byte of ROM, whatever it writes and pushes where (R62, R63, R89; D6, log 14). -/
def Obligations.RomNeverChanges : Prop :=
  ∀ (s t : State) (k : Access) (a : Word), step s = .next t → a.toNat < 0x8000 → t.readByte k a = s.readByte k a

/-! ## Reset and the invariant -/

/-- The registers after reset (R58). -/
def Obligations.ResetRegisters : Prop :=
  State.reset.regs =
    { a := 0x01, f := 0xB0, b := 0x00, c := 0x13, d := 0x00, e := 0xD8, h := 0x01, l := 0x4D, sp := 0xFFFE, pc := 0x0100 } ∧
  State.reset.getAF = 0x01B0 ∧ State.reset.getBC = 0x0013 ∧ State.reset.getDE = 0x00D8 ∧ State.reset.getHL = 0x014D

/-- The rest of the state after reset (R59, R53, R360, R362; D16 to D19, logs 19, 20), with the empty ROM image of log 4
and the default parameters of log 2: every byte reads 0, the default IoSeed in the I/O block, or its register, and the
tile cache (384 tiles of 8 by 8, R52) is 0. -/
def Obligations.ResetState : Prop :=
  State.reset.irq = { ime := false, ie := 0, ifr := 0 } ∧
  State.reset.disp = { halted := false, stopped := false, fault := none, ticks := 0 } ∧
  State.reset.ppu =
    { mode := .oamSearch, ly := 0, acc := 0, seen := 0, lcdc := 0x91, scy := 0, scx := 0, bgp := 0xFC, obp0 := 0xFF,
      obp1 := 0xFF, frame := [] } ∧
  (∀ y x, State.reset.ppu.frame.pixel y x = ⟨0, 0, 0⟩) ∧
  (∀ t y x, t < 384 → y < 8 → x < 8 → State.reset.tileCache t y x = 0) ∧
  State.reset.bus.dma = 0 ∧ State.reset.bus.joysel = 0b11 ∧
  (∀ (k : Access) (a : Word), (∀ r, regionOf a ≠ .special r) →
    State.reset.readByte k a = if regionOf a = .io then ioSeed (a.toNat - 0xFF00) else 0) ∧
  (∀ k : Access, State.reset.readByte k 0xFF00 = 0xFF)

/-- The state after reset meets the invariant. -/
def Obligations.ResetInv : Prop := State.reset.Inv

/-- EVERY step keeps the invariant, from every state that meets it (R32, R45, R121, R301, R325, R329, R130). -/
def Obligations.StepKeepsInv : Prop :=
  ∀ s t : State, s.Inv → step s = .next t → t.Inv

/-- The host's ROM load (R62, R363, R360; D7, logs 4, 40), for every value of the parameters (R12): an image that fits is
at 0x0000 on, padded with 0x00, the I/O block holds IoSeed (R362), all else is as in `State.reset`, and the invariant
holds; a larger image gives no core. And a user reset (R361; D40, log 39): ROM, the parameters and the host's input stand,
the I/O block is re-seeded from IoSeed, all else returns to reset. -/
def Obligations.RomLoadAndUserReset : Prop :=
  (∀ (p : Params) (image : List Byte),
    (loadRom p image = none ↔ 32768 < image.length) ∧
    ∀ s, loadRom p image = some s →
      s = { State.reset with bus.mem := s.bus.mem, params := p } ∧ s.Inv ∧
      (∀ (k : Access) (a : Word), a.toNat < 0x8000 → s.readByte k a = image.getD a.toNat 0) ∧
      (∀ (k : Access) (a : Word), regionOf a = .io → s.readByte k a = p.ioSeed.getD (a.toNat - 0xFF00) 0) ∧
      (∀ (k : Access) (a : Word), 0x8000 ≤ a.toNat → regionOf a ≠ .io → s.readByte k a = State.reset.readByte k a)) ∧
  (∀ s : State, s.bus.mem.wf →
    let t := s.userReset
    t = { State.reset with bus.mem := t.bus.mem, host := s.host, params := s.params } ∧
    t.bus.mem.wf ∧ (s.Inv → t.Inv) ∧
    (∀ (k : Access) (a : Word), a.toNat < 0x8000 → t.readByte k a = s.readByte k a) ∧
    (∀ (k : Access) (a : Word), regionOf a = .io → t.readByte k a = s.params.ioSeed.getD (a.toNat - 0xFF00) 0) ∧
    (∀ (k : Access) (a : Word), 0x8000 ≤ a.toNat → regionOf a ≠ .io → t.readByte k a = State.reset.readByte k a))

/-! ## The instruction families -/

/-- `LD r,r'` (R140) and `LD r,n8` (R141): encoding, effect with frame, cost. -/
def Obligations.LoadRegister : Prop :=
  (∀ (d r : Reg8) (s : State), let op : Byte := 0b01#2 ++ d.code ++ r.code
    encode (.ldRR d r) = [op] ∧ (s.params = defaultParams → s.costBase op = 4) ∧
    exec (.ldRR d r) s = .next ((s.setR d (s.getR r)).spend (s.costBase op))) ∧
  (∀ (d : Reg8) (n : Byte) (s : State), let op : Byte := 0b00#2 ++ d.code ++ 0b110#3
    encode (.ldRN d n) = [op, n] ∧ (s.params = defaultParams → s.costBase op = 8) ∧
    exec (.ldRN d n) s = .next ((s.setR d n).spend (s.costBase op)))

/-- `LD r,(HL)` (R142) and the loads of A (R145, R146, R149, R151, R153): the address is the one before the load, no memory
and no other register changes. -/
def Obligations.LoadFromMemory : Prop :=
  (∀ (d : Reg8) (s : State), let op : Byte := 0b01#2 ++ d.code ++ 0b110#3
    encode (.ldRM d) = [op] ∧ (s.params = defaultParams → s.costBase op = 8) ∧
    exec (.ldRM d) s = .next ((s.setR d (s.readByte .data (s.regs.h ++ s.regs.l))).spend (s.costBase op))) ∧
  (∀ (s : State) (a : Word) (o : Byte),
    let loads (a : Word) (op : Byte) : Result :=
      .next { s with regs.a := s.readByte .data a, disp.ticks := s.disp.ticks + s.costBase op }
    exec .ld_A_mBC s = loads (s.regs.b ++ s.regs.c) 0x0A ∧ exec .ld_A_mDE s = loads (s.regs.d ++ s.regs.e) 0x1A ∧
    exec (.ld_A_ma16 a) s = loads a 0xFA ∧ exec (.ldh_A_ma8 o) s = loads (0xFF00 + o.setWidth 16) 0xF0 ∧
    exec .ld_A_mC s = loads (0xFF00 + s.regs.c.setWidth 16) 0xF2 ∧
    encode .ld_A_mBC = [0x0A] ∧ encode .ld_A_mDE = [0x1A] ∧
    encode (.ld_A_ma16 a) = [0xFA, a.extractLsb' 0 8, a.extractLsb' 8 8] ∧
    encode (.ldh_A_ma8 o) = [0xF0, o] ∧ encode .ld_A_mC = [0xF2] ∧
    (s.params = defaultParams → s.costBase 0x0A = 8 ∧ s.costBase 0x1A = 8 ∧ s.costBase 0xFA = 16 ∧
      s.costBase 0xF0 = 12 ∧ s.costBase 0xF2 = 8))

/-- `LD (HL),r` (R143), `LD (HL),n8` (R144) and the stores of A (R147, R148, R150, R152, R154): one bus write, with its side
effects, and nothing else. -/
def Obligations.StoreToMemory : Prop :=
  ∀ (s : State) (r : Reg8) (n o : Byte) (a : Word),
    let stores (a : Word) (v op : Byte) : Result := .next ((s.writeByte a v).spend (s.costBase op))
    let op : Byte := 0b01110#5 ++ r.code
    exec (.ldMR r) s = stores (s.regs.h ++ s.regs.l) (s.getR r) op ∧
    exec (.ld_mHL_n8 n) s = stores (s.regs.h ++ s.regs.l) n 0x36 ∧
    exec .ld_mBC_A s = stores (s.regs.b ++ s.regs.c) s.regs.a 0x02 ∧
    exec .ld_mDE_A s = stores (s.regs.d ++ s.regs.e) s.regs.a 0x12 ∧
    exec (.ld_ma16_A a) s = stores a s.regs.a 0xEA ∧
    exec (.ldh_ma8_A o) s = stores (0xFF00 + o.setWidth 16) s.regs.a 0xE0 ∧
    exec .ld_mC_A s = stores (0xFF00 + s.regs.c.setWidth 16) s.regs.a 0xE2 ∧
    encode (.ldMR r) = [op] ∧ encode (.ld_mHL_n8 n) = [0x36, n] ∧ encode .ld_mBC_A = [0x02] ∧ encode .ld_mDE_A = [0x12] ∧
    encode (.ld_ma16_A a) = [0xEA, a.extractLsb' 0 8, a.extractLsb' 8 8] ∧ encode (.ldh_ma8_A o) = [0xE0, o] ∧
    encode .ld_mC_A = [0xE2] ∧
    (s.params = defaultParams → s.costBase op = 8 ∧ s.costBase 0x36 = 12 ∧ s.costBase 0x02 = 8 ∧ s.costBase 0x12 = 8 ∧
      s.costBase 0xEA = 16 ∧ s.costBase 0xE0 = 12 ∧ s.costBase 0xE2 = 8)

/-- The loads and stores of A that step HL (R155 to R158): the access is at the old HL, HL moves modulo 2^16, no flag. -/
def Obligations.LoadStoreStepHL : Prop :=
  ∀ s : State,
    let w := s.writeByte s.getHL s.regs.a
    let v := s.readByte .data s.getHL
    let set (t : State) (hl : Word) (op : Byte) : Result := .next { t with
      regs.h := hl.extractLsb' 8 8, regs.l := hl.extractLsb' 0 8, disp.ticks := s.disp.ticks + s.costBase op }
    exec .ld_mHLi_A s = set w (s.getHL + 1) 0x22 ∧ exec .ld_mHLd_A s = set w (s.getHL - 1) 0x32 ∧
    exec .ld_A_mHLi s = set { s with regs.a := v } (s.getHL + 1) 0x2A ∧
    exec .ld_A_mHLd s = set { s with regs.a := v } (s.getHL - 1) 0x3A ∧
    encode .ld_mHLi_A = [0x22] ∧ encode .ld_mHLd_A = [0x32] ∧ encode .ld_A_mHLi = [0x2A] ∧ encode .ld_A_mHLd = [0x3A] ∧
    (s.params = defaultParams →
      s.costBase 0x22 = 8 ∧ s.costBase 0x32 = 8 ∧ s.costBase 0x2A = 8 ∧ s.costBase 0x3A = 8)

/-- `LD rr,n16` (R160), `LD (a16),SP` (R161), `LD SP,HL` (R162). -/
def Obligations.Load16 : Prop :=
  ∀ (s : State) (p : Pair) (n : Word), let op : Byte := 0b00#2 ++ p.code ++ 0b0001#4
    encode (.ldPN p n) = [op, n.extractLsb' 0 8, n.extractLsb' 8 8] ∧
    (s.params = defaultParams → s.costBase op = 12) ∧
    exec (.ldPN p n) s = .next ((s.setPair p n).spend (s.costBase op)) ∧
    encode (.ld_ma16_SP n) = [0x08, n.extractLsb' 0 8, n.extractLsb' 8 8] ∧
    (s.params = defaultParams → s.costBase 0x08 = 20) ∧
    exec (.ld_ma16_SP n) s = .next (((s.writeByte n (s.regs.sp.extractLsb' 0 8)).writeByte (n + 1)
      (s.regs.sp.extractLsb' 8 8)).spend (s.costBase 0x08)) ∧
    encode .ld_SP_HL = [0xF9] ∧ (s.params = defaultParams → s.costBase 0xF9 = 8) ∧
    exec .ld_SP_HL s = .next { s with regs.sp := s.regs.h ++ s.regs.l, disp.ticks := s.disp.ticks + s.costBase 0xF9 }

/-- `PUSH rr2` (R163), `POP rr2` (R164) and `POP AF` (R165): SP moves by 2, the low byte lies lower, and only POP AF
writes F, without the low nibble. -/
def Obligations.PushPop : Prop :=
  ∀ (s : State) (p : StackPair),
    let opPush : Byte := 0b11#2 ++ p.code ++ 0b0101#4
    let opPop : Byte := 0b11#2 ++ p.code ++ 0b0001#4
    let v := s.getStackPair p
    let lo := s.readByte .data s.regs.sp
    let hi := s.readByte .data (s.regs.sp + 1)
    let u (n : Nat) : State := { s with regs.sp := s.regs.sp + 2, disp.ticks := s.disp.ticks + n }
    encode (.push p) = [opPush] ∧ (s.params = defaultParams → s.costBase opPush = 16) ∧
    exec (.push p) s = .next (((({ s with regs.sp := s.regs.sp - 2 } : State).writeByte (s.regs.sp - 2)
      (v.extractLsb' 0 8)).writeByte (s.regs.sp - 1) (v.extractLsb' 8 8)).spend (s.costBase opPush)) ∧
    encode (.pop p) = [opPop] ∧ (s.params = defaultParams → s.costBase opPop = 12) ∧
    exec (.pop .BC) s = .next { u (s.costBase 0xC1) with regs.b := hi, regs.c := lo } ∧
    exec (.pop .DE) s = .next { u (s.costBase 0xD1) with regs.d := hi, regs.e := lo } ∧
    exec (.pop .HL) s = .next { u (s.costBase 0xE1) with regs.h := hi, regs.l := lo } ∧
    exec (.pop .AF) s = .next { u (s.costBase 0xF1) with regs.a := hi, regs.f := lo &&& 0xF0 }

/-- ADD and ADC (R170, R177 to R182) on a register, the byte at HL and an immediate: A, Z, N, H and C in numbers. -/
def Obligations.AddAdc : Prop :=
  ∀ (carry : Bool) (s : State) (r : Reg8) (n : Byte),
    let o : AluOp := if carry then .adc else .add
    let cin := (carry && s.flagC).toNat
    let effect (v op : Byte) : Result :=
      let sum := s.regs.a.toNat + v.toNat + cin
      .next { s with
        regs.a := BitVec.ofNat 8 sum,
        regs.f := flagByte (sum % 256 = 0) false (15 < s.regs.a.toNat % 16 + v.toNat % 16 + cin) (255 < sum),
        disp.ticks := s.disp.ticks + s.costBase op }
    let opR : Byte := 0b1000#4 ++ BitVec.ofBool carry ++ r.code
    let opM : Byte := 0b1000#4 ++ BitVec.ofBool carry ++ 0b110#3
    let opN : Byte := 0b1100#4 ++ BitVec.ofBool carry ++ 0b110#3
    encode (.aluR o r) = [opR] ∧ encode (.aluM o) = [opM] ∧ encode (.aluN o n) = [opN, n] ∧
    (s.params = defaultParams → s.costBase opR = 4 ∧ s.costBase opM = 8 ∧ s.costBase opN = 8) ∧
    exec (.aluR o r) s = effect (s.getR r) opR ∧ exec (.aluM o) s = effect (s.readByte .data s.getHL) opM ∧
    exec (.aluN o n) s = effect n opN

/-- SUB, SBC and CP (R171, R183 to R188, R198 to R200): the difference in integers, the borrows, and that CP keeps A. -/
def Obligations.SubSbcCp : Prop :=
  ∀ (o : AluOp) (s : State) (r : Reg8) (n : Byte), o ∈ [AluOp.sub, .sbc, .cp] →
    let cin := (decide (o = .sbc) && s.flagC).toNat
    let effect (v op : Byte) : Result :=
      let diff : Int := (s.regs.a.toNat : Int) - v.toNat - cin
      .next { s with
        regs.a := if o = .cp then s.regs.a else BitVec.ofInt 8 diff,
        regs.f := flagByte (diff % 256 = 0) true (s.regs.a.toNat % 16 < v.toNat % 16 + cin)
          (s.regs.a.toNat < v.toNat + cin),
        disp.ticks := s.disp.ticks + s.costBase op }
    let opR : Byte := 0b10#2 ++ o.code ++ r.code
    let opM : Byte := 0b10#2 ++ o.code ++ 0b110#3
    let opN : Byte := 0b11#2 ++ o.code ++ 0b110#3
    encode (.aluR o r) = [opR] ∧ encode (.aluM o) = [opM] ∧ encode (.aluN o n) = [opN, n] ∧
    (s.params = defaultParams → s.costBase opR = 4 ∧ s.costBase opM = 8 ∧ s.costBase opN = 8) ∧
    exec (.aluR o r) s = effect (s.getR r) opR ∧ exec (.aluM o) s = effect (s.readByte .data s.getHL) opM ∧
    exec (.aluN o n) s = effect n opN

/-- AND, XOR and OR (R172 to R174, R189 to R197): the bitwise result, Z of it, N and C clear, H set by AND alone. -/
def Obligations.AndXorOr : Prop :=
  ∀ (o : AluOp) (s : State) (r : Reg8) (n : Byte), o ∈ [AluOp.and, .xor, .or] →
    let effect (v op : Byte) : Result :=
      let res := if o = .and then s.regs.a &&& v else if o = .xor then s.regs.a ^^^ v else s.regs.a ||| v
      .next { s with
        regs.a := res, regs.f := flagByte (res = 0) false (o = .and) false,
        disp.ticks := s.disp.ticks + s.costBase op }
    let opR : Byte := 0b10#2 ++ o.code ++ r.code
    let opM : Byte := 0b10#2 ++ o.code ++ 0b110#3
    let opN : Byte := 0b11#2 ++ o.code ++ 0b110#3
    encode (.aluR o r) = [opR] ∧ encode (.aluM o) = [opM] ∧ encode (.aluN o n) = [opN, n] ∧
    (s.params = defaultParams → s.costBase opR = 4 ∧ s.costBase opM = 8 ∧ s.costBase opN = 8) ∧
    exec (.aluR o r) s = effect (s.getR r) opR ∧ exec (.aluM o) s = effect (s.readByte .data s.getHL) opM ∧
    exec (.aluN o n) s = effect n opN

/-- INC and DEC of a register and of the byte at HL (R175, R176, R201 to R204): the value modulo 256, Z, N, H, and C kept;
on memory a read and then a write of the same address, the flags written wherever HL points. -/
def Obligations.IncDec8 : Prop :=
  ∀ (s : State) (r : Reg8),
    let f (up : Bool) (v : Byte) : Byte := if up
      then flagByte ((v.toNat + 1) % 256 = 0) false (v.toNat % 16 = 15) s.flagC
      else flagByte (v.toNat = 1) true (v.toNat % 16 = 0) s.flagC
    let v := s.getR r
    let m := s.readByte .data s.getHL
    let opI : Byte := 0b00#2 ++ r.code ++ 0b100#3
    let opD : Byte := 0b00#2 ++ r.code ++ 0b101#3
    encode (.incR r) = [opI] ∧ encode (.decR r) = [opD] ∧ encode .inc_mHL = [0x34] ∧ encode .dec_mHL = [0x35] ∧
    (s.params = defaultParams →
      s.costBase opI = 4 ∧ s.costBase opD = 4 ∧ s.costBase 0x34 = 12 ∧ s.costBase 0x35 = 12) ∧
    exec (.incR r) s = .next { s.setR r (v + 1) with
      regs.f := f true v, disp.ticks := s.disp.ticks + s.costBase opI } ∧
    exec (.decR r) s = .next { s.setR r (v - 1) with
      regs.f := f false v, disp.ticks := s.disp.ticks + s.costBase opD } ∧
    exec .inc_mHL s = .next { s.writeByte s.getHL (m + 1) with
      regs.f := f true m, disp.ticks := s.disp.ticks + s.costBase 0x34 } ∧
    exec .dec_mHL s = .next { s.writeByte s.getHL (m - 1) with
      regs.f := f false m, disp.ticks := s.disp.ticks + s.costBase 0x35 }

/-- DAA (R205), CPL (R206), SCF (R207), CCF (R208): A and each flag, and nothing else. -/
def Obligations.AccumulatorAndFlags : Prop :=
  ∀ s : State,
    let set (a : Byte) (z n h c : Bool) (op : Byte) : Result := .next { s with
      regs.a := a, regs.f := flagByte z n h c, disp.ticks := s.disp.ticks + s.costBase op }
    let a := s.regs.a.toNat
    let six := s.flagH || (!s.flagN && decide (9 < a % 16))
    let sixty := s.flagC || (!s.flagN && decide (0x99 < a))
    let adj := (if six then 0x06 else 0) + (if sixty then 0x60 else 0)
    let res : Byte := if s.flagN then s.regs.a - BitVec.ofNat 8 adj else s.regs.a + BitVec.ofNat 8 adj
    exec .daa s = set res (res = 0) s.flagN false sixty 0x27 ∧
    exec .cpl s = set (s.regs.a ^^^ 0xFF) s.flagZ true true s.flagC 0x2F ∧
    exec .scf s = set s.regs.a s.flagZ false false true 0x37 ∧
    exec .ccf s = set s.regs.a s.flagZ false false (!s.flagC) 0x3F ∧
    encode .daa = [0x27] ∧ encode .cpl = [0x2F] ∧ encode .scf = [0x37] ∧ encode .ccf = [0x3F] ∧
    (s.params = defaultParams →
      s.costBase 0x27 = 4 ∧ s.costBase 0x2F = 4 ∧ s.costBase 0x37 = 4 ∧ s.costBase 0x3F = 4)

/-- What DAA is for (R205 with R177 and R183): on two-digit decimal numbers, ADD then DAA gives the decimal sum and its
carry, SUB then DAA the decimal difference and its borrow. -/
def Obligations.DecimalAdjust : Prop :=
  ∀ (s : State) (x y : Nat), x < 100 → y < 100 →
    let bcd (n : Nat) : Byte := BitVec.ofNat 8 (n / 10 * 16 + n % 10)
    s.regs.a = bcd x → s.regs.b = bcd y →
    (∃ t u, exec .add_A_B s = .next t ∧ exec .daa t = .next u ∧ u.regs.a = bcd ((x + y) % 100) ∧
      (u.flagC = true ↔ 100 ≤ x + y)) ∧
    (∃ t u, exec .sub_B s = .next t ∧ exec .daa t = .next u ∧ u.regs.a = bcd ((x + 100 - y) % 100) ∧
      (u.flagC = true ↔ x < y))

/-- `ADD HL,rr` (R220, R222), `INC rr` (R223), `DEC rr` (R224): H out of bit 11, C out of bit 15, Z kept; no flag at all
for INC and DEC. -/
def Obligations.Arithmetic16 : Prop :=
  ∀ (s : State) (p : Pair),
    let hl := s.getHL.toNat
    let v := (s.getPair p).toNat
    let opA : Byte := 0b00#2 ++ p.code ++ 0b1001#4
    let opI : Byte := 0b00#2 ++ p.code ++ 0b0011#4
    let opD : Byte := 0b00#2 ++ p.code ++ 0b1011#4
    encode (.addHL p) = [opA] ∧ encode (.incP p) = [opI] ∧ encode (.decP p) = [opD] ∧
    (s.params = defaultParams → s.costBase opA = 8 ∧ s.costBase opI = 8 ∧ s.costBase opD = 8) ∧
    exec (.addHL p) s = .next { s with
      regs.h := BitVec.ofNat 8 ((hl + v) / 256), regs.l := BitVec.ofNat 8 (hl + v),
      regs.f := flagByte s.flagZ false (0xFFF < hl % 0x1000 + v % 0x1000) (0xFFFF < hl + v),
      disp.ticks := s.disp.ticks + s.costBase opA } ∧
    exec (.incP p) s = .next ((s.setPair p (s.getPair p + 1)).spend (s.costBase opI)) ∧
    exec (.decP p) s = .next ((s.setPair p (s.getPair p - 1)).spend (s.costBase opD))

/-- `ADD SP,e8` (R221, R225) and `LD HL,SP+e8` (R226): a signed displacement, the flags of the unsigned low-byte addition,
Z and N clear. -/
def Obligations.SpDisplacement : Prop :=
  ∀ (s : State) (e : Byte),
    let sum := BitVec.ofInt 16 ((s.regs.sp.toNat : Int) + e.toInt)
    let f := flagByte false false (15 < s.regs.sp.toNat % 16 + e.toNat % 16) (255 < s.regs.sp.toNat % 256 + e.toNat)
    encode (.add_SP_e8 e) = [0xE8, e] ∧ encode (.ld_HL_SPe8 e) = [0xF8, e] ∧
    (s.params = defaultParams → s.costBase 0xE8 = 16 ∧ s.costBase 0xF8 = 12) ∧
    exec (.add_SP_e8 e) s = .next { s with
      regs.sp := sum, regs.f := f, disp.ticks := s.disp.ticks + s.costBase 0xE8 } ∧
    exec (.ld_HL_SPe8 e) s = .next { s with
      regs.h := sum.extractLsb' 8 8, regs.l := sum.extractLsb' 0 8, regs.f := f,
      disp.ticks := s.disp.ticks + s.costBase 0xF8 }

/-- RLCA, RRCA, RLA, RRA (R238 to R241): the rotated A, C the bit shifted out, Z, N and H always clear. -/
def Obligations.AccumulatorRotates : Prop :=
  ∀ s : State,
    let a := s.regs.a
    let set (res : Byte) (out : Bool) (op : Byte) : Result := .next { s with
      regs.a := res, regs.f := flagByte false false false out, disp.ticks := s.disp.ticks + s.costBase op }
    exec .rlca s = set (a.extractLsb' 0 7 ++ a.extractLsb' 7 1) (a.getLsbD 7) 0x07 ∧
    exec .rrca s = set (a.extractLsb' 0 1 ++ a.extractLsb' 1 7) (a.getLsbD 0) 0x0F ∧
    exec .rla s = set (a.extractLsb' 0 7 ++ BitVec.ofBool s.flagC) (a.getLsbD 7) 0x17 ∧
    exec .rra s = set (BitVec.ofBool s.flagC ++ a.extractLsb' 1 7) (a.getLsbD 0) 0x1F ∧
    encode .rlca = [0x07] ∧ encode .rrca = [0x0F] ∧ encode .rla = [0x17] ∧ encode .rra = [0x1F] ∧
    (s.params = defaultParams →
      s.costBase 0x07 = 4 ∧ s.costBase 0x0F = 4 ∧ s.costBase 0x17 = 4 ∧ s.costBase 0x1F = 4)

/-- The extended rotates, shifts and SWAP on a register (R250, R252, R254, R256, R258, R260, R262, R264): the result bit by
bit, Z of the result, N and H clear, C the bit shifted out. -/
def Obligations.ShiftRegister : Prop :=
  ∀ (o : ShiftOp) (r : Reg8) (s : State),
    let v := s.getR r
    let res : Byte := match o with
      | .rlc => v.extractLsb' 0 7 ++ v.extractLsb' 7 1
      | .rrc => v.extractLsb' 0 1 ++ v.extractLsb' 1 7
      | .rl => v.extractLsb' 0 7 ++ BitVec.ofBool s.flagC
      | .rr => BitVec.ofBool s.flagC ++ v.extractLsb' 1 7
      | .sla => v.extractLsb' 0 7 ++ 0#1
      | .sra => v.extractLsb' 7 1 ++ v.extractLsb' 1 7
      | .swap => v.extractLsb' 0 4 ++ v.extractLsb' 4 4
      | .srl => 0#1 ++ v.extractLsb' 1 7
    let out : Bool := match o with
      | .rlc | .rl | .sla => v.getLsbD 7
      | .rrc | .rr | .sra | .srl => v.getLsbD 0
      | .swap => false
    let op2 : Byte := 0b00#2 ++ o.code ++ r.code
    encode (.shiftR o r) = [0xCB, op2] ∧ (s.params = defaultParams → s.costBase 0xCB + s.costCB op2 = 8) ∧
    exec (.shiftR o r) s = .next { s.setR r res with
      regs.f := flagByte (res = 0) false false out, disp.ticks := s.disp.ticks + (s.costBase 0xCB + s.costCB op2) }

/-- The same on the byte at HL (R251, R253, R255, R257, R259, R261, R263, R265): read, then written back with its side
effects; the flags are written wherever HL points. -/
def Obligations.ShiftMemory : Prop :=
  ∀ (o : ShiftOp) (s : State),
    let v := s.readByte .data (s.regs.h ++ s.regs.l)
    let res : Byte := match o with
      | .rlc => v.extractLsb' 0 7 ++ v.extractLsb' 7 1
      | .rrc => v.extractLsb' 0 1 ++ v.extractLsb' 1 7
      | .rl => v.extractLsb' 0 7 ++ BitVec.ofBool s.flagC
      | .rr => BitVec.ofBool s.flagC ++ v.extractLsb' 1 7
      | .sla => v.extractLsb' 0 7 ++ 0#1
      | .sra => v.extractLsb' 7 1 ++ v.extractLsb' 1 7
      | .swap => v.extractLsb' 0 4 ++ v.extractLsb' 4 4
      | .srl => 0#1 ++ v.extractLsb' 1 7
    let out : Bool := match o with
      | .rlc | .rl | .sla => v.getLsbD 7
      | .rrc | .rr | .sra | .srl => v.getLsbD 0
      | .swap => false
    let op2 : Byte := 0b00#2 ++ o.code ++ 0b110#3
    encode (.shiftM o) = [0xCB, op2] ∧ (s.params = defaultParams → s.costBase 0xCB + s.costCB op2 = 16) ∧
    exec (.shiftM o) s = .next { s.writeByte (s.regs.h ++ s.regs.l) res with
      regs.f := flagByte (res = 0) false false out, disp.ticks := s.disp.ticks + (s.costBase 0xCB + s.costCB op2) }

/-- BIT, RES and SET (R266 to R271): BIT writes Z, N, H and no operand; RES and SET change one bit, write it back always,
and change no flag. -/
def Obligations.BitResSet : Prop :=
  ∀ (b : BitNo) (r : Reg8) (s : State),
    let n := b.code.toNat
    let hl := s.regs.h ++ s.regs.l
    let v := s.getR r
    let m := s.readByte .data hl
    let one : Byte := BitVec.ofNat 8 (2 ^ n)
    let cost (op2 : Byte) : Nat := s.costBase 0xCB + s.costCB op2
    let tests (v op2 : Byte) : Result := .next { s with
      regs.f := flagByte (!v.getLsbD n) false true s.flagC, disp.ticks := s.disp.ticks + cost op2 }
    let op2 (x : BitVec 2) (z : BitVec 3) : Byte := x ++ b.code ++ z
    encode (.bitR b r) = [0xCB, op2 1 r.code] ∧ encode (.bitM b) = [0xCB, op2 1 6] ∧
    encode (.resR b r) = [0xCB, op2 2 r.code] ∧ encode (.resM b) = [0xCB, op2 2 6] ∧
    encode (.setR b r) = [0xCB, op2 3 r.code] ∧ encode (.setM b) = [0xCB, op2 3 6] ∧
    (s.params = defaultParams → cost (op2 1 r.code) = 8 ∧ cost (op2 1 6) = 12 ∧ cost (op2 2 r.code) = 8 ∧
      cost (op2 2 6) = 16 ∧ cost (op2 3 r.code) = 8 ∧ cost (op2 3 6) = 16) ∧
    exec (.bitR b r) s = tests v (op2 1 r.code) ∧ exec (.bitM b) s = tests m (op2 1 6) ∧
    exec (.resR b r) s = .next ((s.setR r (v &&& ~~~one)).spend (cost (op2 2 r.code))) ∧
    exec (.resM b) s = .next ((s.writeByte hl (m &&& ~~~one)).spend (cost (op2 2 6))) ∧
    exec (.setR b r) s = .next ((s.setR r (v ||| one)).spend (cost (op2 3 r.code))) ∧
    exec (.setM b) s = .next ((s.writeByte hl (m ||| one)).spend (cost (op2 3 6)))

/-- The jumps (R280 to R285): PC, with the displacement signed and counted from the next instruction; the condition on F as
it was; the extra ticks only when taken. PC on entry is the address after the instruction. -/
def Obligations.Jumps : Prop :=
  ∀ (s : State) (c : Cond) (a : Word) (e : Byte),
    let goes (pc : Word) (cost : Nat) : Result := .next { s with regs.pc := pc, disp.ticks := s.disp.ticks + cost }
    let holds : Bool := match c with
      | .NZ => !s.regs.f.getLsbD 7
      | .Z => s.regs.f.getLsbD 7
      | .NC => !s.regs.f.getLsbD 4
      | .C => s.regs.f.getLsbD 4
    let rel := BitVec.ofInt 16 ((s.regs.pc.toNat : Int) + e.toInt)
    let opJp : Byte := 0b110#3 ++ c.code ++ 0b010#3
    let opJr : Byte := 0b001#3 ++ c.code ++ 0b000#3
    exec (.jp_a16 a) s = goes a (s.costBase 0xC3) ∧ exec .jp_HL s = goes (s.regs.h ++ s.regs.l) (s.costBase 0xE9) ∧
    exec (.jr_e8 e) s = goes rel (s.costBase 0x18) ∧
    exec (.jpC c a) s =
      (if holds then goes a (s.costBase opJp + s.params.taken.jp) else goes s.regs.pc (s.costBase opJp)) ∧
    exec (.jrC c e) s =
      (if holds then goes rel (s.costBase opJr + s.params.taken.jr) else goes s.regs.pc (s.costBase opJr)) ∧
    encode (.jp_a16 a) = [0xC3, a.extractLsb' 0 8, a.extractLsb' 8 8] ∧ encode .jp_HL = [0xE9] ∧
    encode (.jr_e8 e) = [0x18, e] ∧ encode (.jpC c a) = [opJp, a.extractLsb' 0 8, a.extractLsb' 8 8] ∧
    encode (.jrC c e) = [opJr, e] ∧
    (s.params = defaultParams → s.costBase 0xC3 = 16 ∧ s.costBase 0xE9 = 4 ∧ s.costBase 0x18 = 12 ∧
      s.costBase opJp = 12 ∧ s.costBase opJr = 8 ∧ s.params.taken.jp = 4 ∧ s.params.taken.jr = 4)

/-- CALL, CALL cc and RST (R286, R287, R291): the return address is pushed low byte lower and PC is the target; an untaken
call changes neither SP nor memory. -/
def Obligations.Calls : Prop :=
  ∀ (s : State) (c : Cond) (a : Word) (y : BitNo),
    let calls (target : Word) (cost : Nat) : Result :=
      let u : State := { s with regs.sp := s.regs.sp - 2 }
      let w := (u.writeByte (s.regs.sp - 2) (s.regs.pc.extractLsb' 0 8)).writeByte (s.regs.sp - 1)
        (s.regs.pc.extractLsb' 8 8)
      .next { w with regs.pc := target, disp.ticks := s.disp.ticks + cost }
    let opC : Byte := 0b110#3 ++ c.code ++ 0b100#3
    let opR : Byte := 0b11#2 ++ y.code ++ 0b111#3
    exec (.call_a16 a) s = calls a (s.costBase 0xCD) ∧
    exec (.callC c a) s = (if s.cond c then calls a (s.costBase opC + s.params.taken.call)
      else .next { s with disp.ticks := s.disp.ticks + s.costBase opC }) ∧
    exec (.rst y) s = calls (BitVec.ofNat 16 (8 * y.code.toNat)) (s.costBase opR) ∧
    encode (.call_a16 a) = [0xCD, a.extractLsb' 0 8, a.extractLsb' 8 8] ∧
    encode (.callC c a) = [opC, a.extractLsb' 0 8, a.extractLsb' 8 8] ∧ encode (.rst y) = [opR] ∧
    (s.params = defaultParams → s.costBase 0xCD = 24 ∧ s.costBase opC = 12 ∧ s.params.taken.call = 12 ∧
      s.costBase opR = 16)

/-- RET and RET cc (R288, R289): PC from [SP] and [SP + 1], SP up by 2; an untaken return changes neither. -/
def Obligations.Returns : Prop :=
  ∀ (s : State) (c : Cond),
    let returns (cost : Nat) : Result := .next { s with
      regs.pc := s.readByte .data (s.regs.sp + 1) ++ s.readByte .data s.regs.sp, regs.sp := s.regs.sp + 2,
      disp.ticks := s.disp.ticks + cost }
    let op : Byte := 0b110#3 ++ c.code ++ 0b000#3
    exec .ret s = returns (s.costBase 0xC9) ∧
    exec (.retC c) s = (if s.cond c then returns (s.costBase op + s.params.taken.ret)
      else .next { s with disp.ticks := s.disp.ticks + s.costBase op }) ∧
    encode .ret = [0xC9] ∧ encode (.retC c) = [op] ∧
    (s.params = defaultParams → s.costBase 0xC9 = 16 ∧ s.costBase op = 8 ∧ s.params.taken.ret = 12)

/-- NOP (R300), HALT (R301), STOP (R302), DI (R303), EI (R304). HALT waits under IME and else only skips HaltSkip bytes; DI
and EI set IME, at once. All but NOP are decisions D27, D28, D32 (logs 25, 26, 28). -/
def Obligations.SystemInstructions : Prop :=
  ∀ (s : State) (n : Byte),
    exec .nop s = .next { s with disp.ticks := s.disp.ticks + s.costBase 0x00 } ∧
    (s.irq.ime = true → exec .halt s = .next { s with
      disp.halted := true, disp.ticks := s.disp.ticks + s.costBase 0x76 }) ∧
    (s.irq.ime = false → exec .halt s = .next { s with
      regs.pc := s.regs.pc + (if s.params.haltSkip then 1 else 0), disp.ticks := s.disp.ticks + s.costBase 0x76 }) ∧
    exec (.stop n) s = .next { s with disp.stopped := true, disp.ticks := s.disp.ticks + s.costBase 0x10 } ∧
    exec .di s = .next { s with irq.ime := false, disp.ticks := s.disp.ticks + s.costBase 0xF3 } ∧
    exec .ei s = .next { s with irq.ime := true, disp.ticks := s.disp.ticks + s.costBase 0xFB } ∧
    encode .nop = [0x00] ∧ encode .halt = [0x76] ∧ encode (.stop n) = [0x10, n] ∧ encode .di = [0xF3] ∧
    encode .ei = [0xFB] ∧
    (s.params = defaultParams → s.costBase 0x00 = 4 ∧ s.costBase 0x76 = 4 ∧ s.costBase 0x10 = 4 ∧
      s.costBase 0xF3 = 4 ∧ s.costBase 0xFB = 4 ∧ s.params.haltIdleTicks = 4 ∧ s.params.haltSkip = false)

/-- The escape (R128): its meaning on a byte is the meaning of that byte's extended row, whose encoding is 0xCB and the
byte, and the cost is that of the escape and that of the row. -/
def Obligations.EscapeRunsExtended : Prop :=
  ∀ (op2 : Byte) (s : State),
    encode (decodeExtended op2) = [0xCB, op2] ∧ encode (.prefix_CB op2) = [0xCB, op2] ∧
    exec (.prefix_CB op2) s = exec (decodeExtended op2) s ∧
    ∃ t, exec (.prefix_CB op2) s = .next t ∧ t.disp.ticks = s.disp.ticks + (s.costBase 0xCB + s.costCB op2)
end

