-- ==== Sys2Proof/Laws/Memory.lean ====
section
/-! SUPPORT. Sparse arrays: read after write, and every write keeps the canonical form. -/

namespace Sys2Proof.Machine

section

variable {α : Type} {dflt : Nat → α}

@[simp] theorem Sparse.get_nil (k : Nat) : Sparse.get dflt [] k = dflt k := rfl

theorem Sparse.get_of_lt {m : List (Nat × α)} {k : Nat} (h : ∀ p ∈ m, k < p.1) : Sparse.get dflt m k = dflt k := by
  induction m with
  | nil => rfl
  | cons p rest ih =>
    have hp := h p (by simp)
    simp only [Sparse.get, if_neg (Nat.ne_of_lt hp)]
    exact ih fun q hq => h q (by simp [hq])

theorem Sparse.wf_tail {p : Nat × α} {rest : List (Nat × α)} (hw : Sparse.wf dflt (p :: rest)) :
    Sparse.wf dflt rest ∧ ∀ q ∈ rest, p.1 < q.1 :=
  ⟨⟨(List.pairwise_cons.1 hw.1).2, fun q hq => hw.2 q (by simp [hq])⟩, (List.pairwise_cons.1 hw.1).1⟩

variable [DecidableEq α]

theorem Sparse.get_put {rest : List (Nat × α)} {k : Nat} (h : ∀ p ∈ rest, k < p.1) (v : α) (j : Nat) :
    Sparse.get dflt (Sparse.put dflt k v rest) j = if j = k then v else Sparse.get dflt rest j := by
  unfold Sparse.put
  split
  · split
    · subst_vars; exact Sparse.get_of_lt h
    · rfl
  · rfl

theorem Sparse.wf_put {rest : List (Nat × α)} {k : Nat} (h : ∀ p ∈ rest, k < p.1) (hw : Sparse.wf dflt rest) (v : α) :
    Sparse.wf dflt (Sparse.put dflt k v rest) := by
  unfold Sparse.put
  split
  · exact hw
  · rename_i hv
    refine ⟨List.pairwise_cons.2 ⟨h, hw.1⟩, ?_⟩
    rintro p hp
    rcases List.mem_cons.1 hp with rfl | hp
    · exact hv
    · exact hw.2 p hp

/-- The keys after a write: the old ones and the written one. -/
theorem Sparse.mem_set {m : List (Nat × α)} {k : Nat} {v : α} {p : Nat × α} (hp : p ∈ Sparse.set dflt m k v) :
    p ∈ m ∨ p = (k, v) := by
  induction m with
  | nil =>
    simp only [Sparse.set, Sparse.put] at hp
    split at hp <;> simp_all
  | cons q rest ih =>
    simp only [Sparse.set, Sparse.put] at hp
    split at hp
    · split at hp <;> simp_all <;> tauto
    · split at hp
      · split at hp <;> simp_all <;> tauto
      · rcases List.mem_cons.1 hp with rfl | hp
        · simp
        · rcases ih hp with h | h <;> simp [h]

/-- A read after a write in canonical form. -/
theorem Sparse.get_set {m : List (Nat × α)} (hw : Sparse.wf dflt m) (k : Nat) (v : α) (j : Nat) :
    Sparse.get dflt (Sparse.set dflt m k v) j = if j = k then v else Sparse.get dflt m j := by
  induction m with
  | nil => exact Sparse.get_put (by simp) v j
  | cons p rest ih =>
    obtain ⟨hr, hlt⟩ := Sparse.wf_tail hw
    simp only [Sparse.set]
    split
    · rename_i h
      refine Sparse.get_put ?_ v j
      rintro q hq
      rcases List.mem_cons.1 hq with rfl | hq
      · exact h
      · exact h.trans (hlt q hq)
    · split
      · rename_i _ h
        subst h
        rw [Sparse.get_put hlt]
        simp only [Sparse.get]
        split <;> rfl
      · rename_i _ h
        simp only [Sparse.get, ih hr]
        split
        · subst_vars; simp [show ¬p.1 = k from fun e => h e.symm]
        · rfl

/-- A write keeps the canonical form. -/
theorem Sparse.wf_set {m : List (Nat × α)} (hw : Sparse.wf dflt m) (k : Nat) (v : α) :
    Sparse.wf dflt (Sparse.set dflt m k v) := by
  induction m with
  | nil => exact Sparse.wf_put (by simp) hw v
  | cons p rest ih =>
    obtain ⟨hr, hlt⟩ := Sparse.wf_tail hw
    simp only [Sparse.set]
    split
    · rename_i h
      refine Sparse.wf_put ?_ hw v
      rintro q hq
      rcases List.mem_cons.1 hq with rfl | hq
      · exact h
      · exact h.trans (hlt q hq)
    · split
      · rename_i _ h
        subst h
        exact Sparse.wf_put hlt hr v
      · rename_i h1 h2
        refine ⟨List.pairwise_cons.2 ⟨?_, (ih hr).1⟩, ?_⟩
        · rintro q hq
          rcases Sparse.mem_set hq with hq | rfl
          · exact hlt q hq
          · show p.1 < k
            omega
        · rintro q hq
          rcases List.mem_cons.1 hq with rfl | hq
          · exact hw.2 _ (by simp)
          · exact (ih hr).2 q hq

end

/-! ## Memory -/

theorem Memory.read_write {m : Memory} (hw : m.wf) (k : Nat) (v : Byte) (j : Nat) :
    (m.write k v).read j = if j = k then v else m.read j := Sparse.get_set hw.1 k v j

theorem Memory.read_write_same {m : Memory} (hw : m.wf) (k : Nat) (v : Byte) : (m.write k v).read k = v := by
  simp [Memory.read_write hw]

theorem Memory.read_write_other {m : Memory} (hw : m.wf) {k j : Nat} (h : j ≠ k) (v : Byte) :
    (m.write k v).read j = m.read j := by
  simp [Memory.read_write hw, h]

theorem Memory.wf_write {m : Memory} (hw : m.wf) {k : Nat} (hk : k < 0x10000) (v : Byte) : (m.write k v).wf := by
  refine ⟨Sparse.wf_set hw.1 k v, ?_⟩
  rintro p hp
  rcases Sparse.mem_set hp with hp | rfl
  · exact hw.2 p hp
  · exact hk

theorem Memory.wf_nil : Memory.wf [] := by decide

@[simp] theorem Memory.read_nil (k : Nat) : Memory.read [] k = Memory.unlisted k := rfl

/-! ## Frame buffer -/

theorem Frame.row_setRow {fb : Frame} (hw : fb.wf) (y : Nat) (row : List RGB) (j : Nat) :
    (fb.setRow y row).row j = if j = y then row else fb.row j := Sparse.get_set hw.1 y row j

theorem Frame.wf_setRow {fb : Frame} (hw : fb.wf) {y : Nat} (hy : y < 144) {row : List RGB} (hr : row.length = 160) :
    (fb.setRow y row).wf := by
  refine ⟨Sparse.wf_set hw.1 y row, ?_⟩
  rintro p hp
  rcases Sparse.mem_set hp with hp | rfl
  · exact hw.2 p hp
  · exact ⟨hy, hr⟩

theorem Frame.wf_nil : Frame.wf [] := by decide

end Sys2Proof.Machine
end

