-- ==== Sys2Proof/Laws/State.lean ====
section
/-! SUPPORT. What each named write of the state leaves: one lemma per field, so that no proof unfolds a record update. -/

namespace Sys2Proof.Machine

/-! ## Registers -/

@[simp] theorem setSP_irq (s : State) (v : Word) : (s.setSP v).irq = s.irq := rfl
@[simp] theorem setSP_disp (s : State) (v : Word) : (s.setSP v).disp = s.disp := rfl
@[simp] theorem setSP_ppu (s : State) (v : Word) : (s.setSP v).ppu = s.ppu := rfl
@[simp] theorem setSP_bus (s : State) (v : Word) : (s.setSP v).bus = s.bus := rfl
@[simp] theorem setSP_host (s : State) (v : Word) : (s.setSP v).host = s.host := rfl
@[simp] theorem setSP_params (s : State) (v : Word) : (s.setSP v).params = s.params := rfl
@[simp] theorem setSP_regs_b (s : State) (v : Word) : (s.setSP v).regs.b = s.regs.b := rfl
@[simp] theorem setSP_regs_c (s : State) (v : Word) : (s.setSP v).regs.c = s.regs.c := rfl
@[simp] theorem setSP_regs_d (s : State) (v : Word) : (s.setSP v).regs.d = s.regs.d := rfl
@[simp] theorem setSP_regs_e (s : State) (v : Word) : (s.setSP v).regs.e = s.regs.e := rfl
@[simp] theorem setSP_regs_h (s : State) (v : Word) : (s.setSP v).regs.h = s.regs.h := rfl
@[simp] theorem setSP_regs_l (s : State) (v : Word) : (s.setSP v).regs.l = s.regs.l := rfl
@[simp] theorem setSP_regs_a (s : State) (v : Word) : (s.setSP v).regs.a = s.regs.a := rfl
@[simp] theorem setSP_regs_f (s : State) (v : Word) : (s.setSP v).regs.f = s.regs.f := rfl
@[simp] theorem setSP_regs_pc (s : State) (v : Word) : (s.setSP v).regs.pc = s.regs.pc := rfl
@[simp] theorem setSP_regs_sp (s : State) (v : Word) : (s.setSP v).regs.sp = v := rfl

@[simp] theorem setPC_irq (s : State) (v : Word) : (s.setPC v).irq = s.irq := rfl
@[simp] theorem setPC_disp (s : State) (v : Word) : (s.setPC v).disp = s.disp := rfl
@[simp] theorem setPC_ppu (s : State) (v : Word) : (s.setPC v).ppu = s.ppu := rfl
@[simp] theorem setPC_bus (s : State) (v : Word) : (s.setPC v).bus = s.bus := rfl
@[simp] theorem setPC_host (s : State) (v : Word) : (s.setPC v).host = s.host := rfl
@[simp] theorem setPC_params (s : State) (v : Word) : (s.setPC v).params = s.params := rfl
@[simp] theorem setPC_regs_b (s : State) (v : Word) : (s.setPC v).regs.b = s.regs.b := rfl
@[simp] theorem setPC_regs_c (s : State) (v : Word) : (s.setPC v).regs.c = s.regs.c := rfl
@[simp] theorem setPC_regs_d (s : State) (v : Word) : (s.setPC v).regs.d = s.regs.d := rfl
@[simp] theorem setPC_regs_e (s : State) (v : Word) : (s.setPC v).regs.e = s.regs.e := rfl
@[simp] theorem setPC_regs_h (s : State) (v : Word) : (s.setPC v).regs.h = s.regs.h := rfl
@[simp] theorem setPC_regs_l (s : State) (v : Word) : (s.setPC v).regs.l = s.regs.l := rfl
@[simp] theorem setPC_regs_a (s : State) (v : Word) : (s.setPC v).regs.a = s.regs.a := rfl
@[simp] theorem setPC_regs_f (s : State) (v : Word) : (s.setPC v).regs.f = s.regs.f := rfl
@[simp] theorem setPC_regs_sp (s : State) (v : Word) : (s.setPC v).regs.sp = s.regs.sp := rfl
@[simp] theorem setPC_regs_pc (s : State) (v : Word) : (s.setPC v).regs.pc = v := rfl

@[simp] theorem setF_irq (s : State) (v : Byte) : (s.setF v).irq = s.irq := rfl
@[simp] theorem setF_disp (s : State) (v : Byte) : (s.setF v).disp = s.disp := rfl
@[simp] theorem setF_ppu (s : State) (v : Byte) : (s.setF v).ppu = s.ppu := rfl
@[simp] theorem setF_bus (s : State) (v : Byte) : (s.setF v).bus = s.bus := rfl
@[simp] theorem setF_host (s : State) (v : Byte) : (s.setF v).host = s.host := rfl
@[simp] theorem setF_params (s : State) (v : Byte) : (s.setF v).params = s.params := rfl
@[simp] theorem setF_regs_b (s : State) (v : Byte) : (s.setF v).regs.b = s.regs.b := rfl
@[simp] theorem setF_regs_c (s : State) (v : Byte) : (s.setF v).regs.c = s.regs.c := rfl
@[simp] theorem setF_regs_d (s : State) (v : Byte) : (s.setF v).regs.d = s.regs.d := rfl
@[simp] theorem setF_regs_e (s : State) (v : Byte) : (s.setF v).regs.e = s.regs.e := rfl
@[simp] theorem setF_regs_h (s : State) (v : Byte) : (s.setF v).regs.h = s.regs.h := rfl
@[simp] theorem setF_regs_l (s : State) (v : Byte) : (s.setF v).regs.l = s.regs.l := rfl
@[simp] theorem setF_regs_a (s : State) (v : Byte) : (s.setF v).regs.a = s.regs.a := rfl
@[simp] theorem setF_regs_sp (s : State) (v : Byte) : (s.setF v).regs.sp = s.regs.sp := rfl
@[simp] theorem setF_regs_pc (s : State) (v : Byte) : (s.setF v).regs.pc = s.regs.pc := rfl
@[simp] theorem setF_regs_f (s : State) (v : Byte) : (s.setF v).regs.f = v &&& 0xF0 := rfl

@[simp] theorem setBC_irq (s : State) (v : Word) : (s.setBC v).irq = s.irq := rfl
@[simp] theorem setBC_disp (s : State) (v : Word) : (s.setBC v).disp = s.disp := rfl
@[simp] theorem setBC_ppu (s : State) (v : Word) : (s.setBC v).ppu = s.ppu := rfl
@[simp] theorem setBC_bus (s : State) (v : Word) : (s.setBC v).bus = s.bus := rfl
@[simp] theorem setBC_host (s : State) (v : Word) : (s.setBC v).host = s.host := rfl
@[simp] theorem setBC_params (s : State) (v : Word) : (s.setBC v).params = s.params := rfl
@[simp] theorem setBC_regs_d (s : State) (v : Word) : (s.setBC v).regs.d = s.regs.d := rfl
@[simp] theorem setBC_regs_e (s : State) (v : Word) : (s.setBC v).regs.e = s.regs.e := rfl
@[simp] theorem setBC_regs_h (s : State) (v : Word) : (s.setBC v).regs.h = s.regs.h := rfl
@[simp] theorem setBC_regs_l (s : State) (v : Word) : (s.setBC v).regs.l = s.regs.l := rfl
@[simp] theorem setBC_regs_a (s : State) (v : Word) : (s.setBC v).regs.a = s.regs.a := rfl
@[simp] theorem setBC_regs_f (s : State) (v : Word) : (s.setBC v).regs.f = s.regs.f := rfl
@[simp] theorem setBC_regs_sp (s : State) (v : Word) : (s.setBC v).regs.sp = s.regs.sp := rfl
@[simp] theorem setBC_regs_pc (s : State) (v : Word) : (s.setBC v).regs.pc = s.regs.pc := rfl
@[simp] theorem setBC_regs_b (s : State) (v : Word) : (s.setBC v).regs.b = hiByte v := rfl
@[simp] theorem setBC_regs_c (s : State) (v : Word) : (s.setBC v).regs.c = loByte v := rfl

@[simp] theorem setDE_irq (s : State) (v : Word) : (s.setDE v).irq = s.irq := rfl
@[simp] theorem setDE_disp (s : State) (v : Word) : (s.setDE v).disp = s.disp := rfl
@[simp] theorem setDE_ppu (s : State) (v : Word) : (s.setDE v).ppu = s.ppu := rfl
@[simp] theorem setDE_bus (s : State) (v : Word) : (s.setDE v).bus = s.bus := rfl
@[simp] theorem setDE_host (s : State) (v : Word) : (s.setDE v).host = s.host := rfl
@[simp] theorem setDE_params (s : State) (v : Word) : (s.setDE v).params = s.params := rfl
@[simp] theorem setDE_regs_b (s : State) (v : Word) : (s.setDE v).regs.b = s.regs.b := rfl
@[simp] theorem setDE_regs_c (s : State) (v : Word) : (s.setDE v).regs.c = s.regs.c := rfl
@[simp] theorem setDE_regs_h (s : State) (v : Word) : (s.setDE v).regs.h = s.regs.h := rfl
@[simp] theorem setDE_regs_l (s : State) (v : Word) : (s.setDE v).regs.l = s.regs.l := rfl
@[simp] theorem setDE_regs_a (s : State) (v : Word) : (s.setDE v).regs.a = s.regs.a := rfl
@[simp] theorem setDE_regs_f (s : State) (v : Word) : (s.setDE v).regs.f = s.regs.f := rfl
@[simp] theorem setDE_regs_sp (s : State) (v : Word) : (s.setDE v).regs.sp = s.regs.sp := rfl
@[simp] theorem setDE_regs_pc (s : State) (v : Word) : (s.setDE v).regs.pc = s.regs.pc := rfl
@[simp] theorem setDE_regs_d (s : State) (v : Word) : (s.setDE v).regs.d = hiByte v := rfl
@[simp] theorem setDE_regs_e (s : State) (v : Word) : (s.setDE v).regs.e = loByte v := rfl

@[simp] theorem setHL_irq (s : State) (v : Word) : (s.setHL v).irq = s.irq := rfl
@[simp] theorem setHL_disp (s : State) (v : Word) : (s.setHL v).disp = s.disp := rfl
@[simp] theorem setHL_ppu (s : State) (v : Word) : (s.setHL v).ppu = s.ppu := rfl
@[simp] theorem setHL_bus (s : State) (v : Word) : (s.setHL v).bus = s.bus := rfl
@[simp] theorem setHL_host (s : State) (v : Word) : (s.setHL v).host = s.host := rfl
@[simp] theorem setHL_params (s : State) (v : Word) : (s.setHL v).params = s.params := rfl
@[simp] theorem setHL_regs_b (s : State) (v : Word) : (s.setHL v).regs.b = s.regs.b := rfl
@[simp] theorem setHL_regs_c (s : State) (v : Word) : (s.setHL v).regs.c = s.regs.c := rfl
@[simp] theorem setHL_regs_d (s : State) (v : Word) : (s.setHL v).regs.d = s.regs.d := rfl
@[simp] theorem setHL_regs_e (s : State) (v : Word) : (s.setHL v).regs.e = s.regs.e := rfl
@[simp] theorem setHL_regs_a (s : State) (v : Word) : (s.setHL v).regs.a = s.regs.a := rfl
@[simp] theorem setHL_regs_f (s : State) (v : Word) : (s.setHL v).regs.f = s.regs.f := rfl
@[simp] theorem setHL_regs_sp (s : State) (v : Word) : (s.setHL v).regs.sp = s.regs.sp := rfl
@[simp] theorem setHL_regs_pc (s : State) (v : Word) : (s.setHL v).regs.pc = s.regs.pc := rfl
@[simp] theorem setHL_regs_h (s : State) (v : Word) : (s.setHL v).regs.h = hiByte v := rfl
@[simp] theorem setHL_regs_l (s : State) (v : Word) : (s.setHL v).regs.l = loByte v := rfl

@[simp] theorem setAF_irq (s : State) (v : Word) : (s.setAF v).irq = s.irq := rfl
@[simp] theorem setAF_disp (s : State) (v : Word) : (s.setAF v).disp = s.disp := rfl
@[simp] theorem setAF_ppu (s : State) (v : Word) : (s.setAF v).ppu = s.ppu := rfl
@[simp] theorem setAF_bus (s : State) (v : Word) : (s.setAF v).bus = s.bus := rfl
@[simp] theorem setAF_host (s : State) (v : Word) : (s.setAF v).host = s.host := rfl
@[simp] theorem setAF_params (s : State) (v : Word) : (s.setAF v).params = s.params := rfl
@[simp] theorem setAF_regs_b (s : State) (v : Word) : (s.setAF v).regs.b = s.regs.b := rfl
@[simp] theorem setAF_regs_c (s : State) (v : Word) : (s.setAF v).regs.c = s.regs.c := rfl
@[simp] theorem setAF_regs_d (s : State) (v : Word) : (s.setAF v).regs.d = s.regs.d := rfl
@[simp] theorem setAF_regs_e (s : State) (v : Word) : (s.setAF v).regs.e = s.regs.e := rfl
@[simp] theorem setAF_regs_h (s : State) (v : Word) : (s.setAF v).regs.h = s.regs.h := rfl
@[simp] theorem setAF_regs_l (s : State) (v : Word) : (s.setAF v).regs.l = s.regs.l := rfl
@[simp] theorem setAF_regs_sp (s : State) (v : Word) : (s.setAF v).regs.sp = s.regs.sp := rfl
@[simp] theorem setAF_regs_pc (s : State) (v : Word) : (s.setAF v).regs.pc = s.regs.pc := rfl
@[simp] theorem setAF_regs_a (s : State) (v : Word) : (s.setAF v).regs.a = hiByte v := rfl
@[simp] theorem setAF_regs_f (s : State) (v : Word) : (s.setAF v).regs.f = loByte v &&& 0xF0 := rfl

@[simp] theorem setR_irq (s : State) (r : Reg8) (v : Byte) : (s.setR r v).irq = s.irq := by cases r <;> rfl
@[simp] theorem setR_disp (s : State) (r : Reg8) (v : Byte) : (s.setR r v).disp = s.disp := by cases r <;> rfl
@[simp] theorem setR_ppu (s : State) (r : Reg8) (v : Byte) : (s.setR r v).ppu = s.ppu := by cases r <;> rfl
@[simp] theorem setR_bus (s : State) (r : Reg8) (v : Byte) : (s.setR r v).bus = s.bus := by cases r <;> rfl
@[simp] theorem setR_host (s : State) (r : Reg8) (v : Byte) : (s.setR r v).host = s.host := by cases r <;> rfl
@[simp] theorem setR_params (s : State) (r : Reg8) (v : Byte) : (s.setR r v).params = s.params := by cases r <;> rfl
@[simp] theorem setR_regs_f (s : State) (r : Reg8) (v : Byte) : (s.setR r v).regs.f = s.regs.f := by cases r <;> rfl
@[simp] theorem setR_regs_sp (s : State) (r : Reg8) (v : Byte) : (s.setR r v).regs.sp = s.regs.sp := by cases r <;> rfl
@[simp] theorem setR_regs_pc (s : State) (r : Reg8) (v : Byte) : (s.setR r v).regs.pc = s.regs.pc := by cases r <;> rfl

@[simp] theorem setPair_irq (s : State) (p : Pair) (v : Word) : (s.setPair p v).irq = s.irq := by cases p <;> rfl
@[simp] theorem setPair_disp (s : State) (p : Pair) (v : Word) : (s.setPair p v).disp = s.disp := by cases p <;> rfl
@[simp] theorem setPair_ppu (s : State) (p : Pair) (v : Word) : (s.setPair p v).ppu = s.ppu := by cases p <;> rfl
@[simp] theorem setPair_bus (s : State) (p : Pair) (v : Word) : (s.setPair p v).bus = s.bus := by cases p <;> rfl
@[simp] theorem setPair_host (s : State) (p : Pair) (v : Word) : (s.setPair p v).host = s.host := by cases p <;> rfl
@[simp] theorem setPair_params (s : State) (p : Pair) (v : Word) : (s.setPair p v).params = s.params := by cases p <;> rfl
@[simp] theorem setPair_regs_a (s : State) (p : Pair) (v : Word) : (s.setPair p v).regs.a = s.regs.a := by cases p <;> rfl
@[simp] theorem setPair_regs_f (s : State) (p : Pair) (v : Word) : (s.setPair p v).regs.f = s.regs.f := by cases p <;> rfl
@[simp] theorem setPair_regs_pc (s : State) (p : Pair) (v : Word) : (s.setPair p v).regs.pc = s.regs.pc := by cases p <;> rfl

@[simp] theorem setStackPair_irq (s : State) (p : StackPair) (v : Word) : (s.setStackPair p v).irq = s.irq := by cases p <;> rfl
@[simp] theorem setStackPair_disp (s : State) (p : StackPair) (v : Word) : (s.setStackPair p v).disp = s.disp := by cases p <;> rfl
@[simp] theorem setStackPair_ppu (s : State) (p : StackPair) (v : Word) : (s.setStackPair p v).ppu = s.ppu := by cases p <;> rfl
@[simp] theorem setStackPair_bus (s : State) (p : StackPair) (v : Word) : (s.setStackPair p v).bus = s.bus := by cases p <;> rfl
@[simp] theorem setStackPair_host (s : State) (p : StackPair) (v : Word) : (s.setStackPair p v).host = s.host := by cases p <;> rfl
@[simp] theorem setStackPair_params (s : State) (p : StackPair) (v : Word) : (s.setStackPair p v).params = s.params := by cases p <;> rfl
@[simp] theorem setStackPair_regs_sp (s : State) (p : StackPair) (v : Word) : (s.setStackPair p v).regs.sp = s.regs.sp := by cases p <;> rfl
@[simp] theorem setStackPair_regs_pc (s : State) (p : StackPair) (v : Word) : (s.setStackPair p v).regs.pc = s.regs.pc := by cases p <;> rfl

/-! ## Flags -/

@[simp] theorem setFlag_irq (s : State) (m : Byte) (b : Bool) : (s.setFlag m b).irq = s.irq := rfl
@[simp] theorem setFlag_disp (s : State) (m : Byte) (b : Bool) : (s.setFlag m b).disp = s.disp := rfl
@[simp] theorem setFlag_ppu (s : State) (m : Byte) (b : Bool) : (s.setFlag m b).ppu = s.ppu := rfl
@[simp] theorem setFlag_bus (s : State) (m : Byte) (b : Bool) : (s.setFlag m b).bus = s.bus := rfl
@[simp] theorem setFlag_host (s : State) (m : Byte) (b : Bool) : (s.setFlag m b).host = s.host := rfl
@[simp] theorem setFlag_params (s : State) (m : Byte) (b : Bool) : (s.setFlag m b).params = s.params := rfl
@[simp] theorem setFlag_regs_b (s : State) (m : Byte) (b : Bool) : (s.setFlag m b).regs.b = s.regs.b := rfl
@[simp] theorem setFlag_regs_c (s : State) (m : Byte) (b : Bool) : (s.setFlag m b).regs.c = s.regs.c := rfl
@[simp] theorem setFlag_regs_d (s : State) (m : Byte) (b : Bool) : (s.setFlag m b).regs.d = s.regs.d := rfl
@[simp] theorem setFlag_regs_e (s : State) (m : Byte) (b : Bool) : (s.setFlag m b).regs.e = s.regs.e := rfl
@[simp] theorem setFlag_regs_h (s : State) (m : Byte) (b : Bool) : (s.setFlag m b).regs.h = s.regs.h := rfl
@[simp] theorem setFlag_regs_l (s : State) (m : Byte) (b : Bool) : (s.setFlag m b).regs.l = s.regs.l := rfl
@[simp] theorem setFlag_regs_a (s : State) (m : Byte) (b : Bool) : (s.setFlag m b).regs.a = s.regs.a := rfl
@[simp] theorem setFlag_regs_sp (s : State) (m : Byte) (b : Bool) : (s.setFlag m b).regs.sp = s.regs.sp := rfl
@[simp] theorem setFlag_regs_pc (s : State) (m : Byte) (b : Bool) : (s.setFlag m b).regs.pc = s.regs.pc := rfl

@[simp] theorem flagEntry_irq (s : State) (m : Byte) (b : Option Bool) : (s.flagEntry m b).irq = s.irq := by cases b <;> rfl
@[simp] theorem flagEntry_disp (s : State) (m : Byte) (b : Option Bool) : (s.flagEntry m b).disp = s.disp := by cases b <;> rfl
@[simp] theorem flagEntry_ppu (s : State) (m : Byte) (b : Option Bool) : (s.flagEntry m b).ppu = s.ppu := by cases b <;> rfl
@[simp] theorem flagEntry_bus (s : State) (m : Byte) (b : Option Bool) : (s.flagEntry m b).bus = s.bus := by cases b <;> rfl
@[simp] theorem flagEntry_host (s : State) (m : Byte) (b : Option Bool) : (s.flagEntry m b).host = s.host := by cases b <;> rfl
@[simp] theorem flagEntry_params (s : State) (m : Byte) (b : Option Bool) : (s.flagEntry m b).params = s.params := by cases b <;> rfl
@[simp] theorem flagEntry_regs_b (s : State) (m : Byte) (b : Option Bool) : (s.flagEntry m b).regs.b = s.regs.b := by cases b <;> rfl
@[simp] theorem flagEntry_regs_c (s : State) (m : Byte) (b : Option Bool) : (s.flagEntry m b).regs.c = s.regs.c := by cases b <;> rfl
@[simp] theorem flagEntry_regs_d (s : State) (m : Byte) (b : Option Bool) : (s.flagEntry m b).regs.d = s.regs.d := by cases b <;> rfl
@[simp] theorem flagEntry_regs_e (s : State) (m : Byte) (b : Option Bool) : (s.flagEntry m b).regs.e = s.regs.e := by cases b <;> rfl
@[simp] theorem flagEntry_regs_h (s : State) (m : Byte) (b : Option Bool) : (s.flagEntry m b).regs.h = s.regs.h := by cases b <;> rfl
@[simp] theorem flagEntry_regs_l (s : State) (m : Byte) (b : Option Bool) : (s.flagEntry m b).regs.l = s.regs.l := by cases b <;> rfl
@[simp] theorem flagEntry_regs_a (s : State) (m : Byte) (b : Option Bool) : (s.flagEntry m b).regs.a = s.regs.a := by cases b <;> rfl
@[simp] theorem flagEntry_regs_sp (s : State) (m : Byte) (b : Option Bool) : (s.flagEntry m b).regs.sp = s.regs.sp := by cases b <;> rfl
@[simp] theorem flagEntry_regs_pc (s : State) (m : Byte) (b : Option Bool) : (s.flagEntry m b).regs.pc = s.regs.pc := by cases b <;> rfl

@[simp] theorem flagLine_irq (s : State) (z n h c : Option Bool) : (s.flagLine z n h c).irq = s.irq := by
  simp [State.flagLine]
@[simp] theorem flagLine_disp (s : State) (z n h c : Option Bool) : (s.flagLine z n h c).disp = s.disp := by
  simp [State.flagLine]
@[simp] theorem flagLine_ppu (s : State) (z n h c : Option Bool) : (s.flagLine z n h c).ppu = s.ppu := by
  simp [State.flagLine]
@[simp] theorem flagLine_bus (s : State) (z n h c : Option Bool) : (s.flagLine z n h c).bus = s.bus := by
  simp [State.flagLine]
@[simp] theorem flagLine_host (s : State) (z n h c : Option Bool) : (s.flagLine z n h c).host = s.host := by
  simp [State.flagLine]
@[simp] theorem flagLine_params (s : State) (z n h c : Option Bool) : (s.flagLine z n h c).params = s.params := by
  simp [State.flagLine]
@[simp] theorem flagLine_regs_b (s : State) (z n h c : Option Bool) : (s.flagLine z n h c).regs.b = s.regs.b := by
  simp [State.flagLine]
@[simp] theorem flagLine_regs_c (s : State) (z n h c : Option Bool) : (s.flagLine z n h c).regs.c = s.regs.c := by
  simp [State.flagLine]
@[simp] theorem flagLine_regs_d (s : State) (z n h c : Option Bool) : (s.flagLine z n h c).regs.d = s.regs.d := by
  simp [State.flagLine]
@[simp] theorem flagLine_regs_e (s : State) (z n h c : Option Bool) : (s.flagLine z n h c).regs.e = s.regs.e := by
  simp [State.flagLine]
@[simp] theorem flagLine_regs_h (s : State) (z n h c : Option Bool) : (s.flagLine z n h c).regs.h = s.regs.h := by
  simp [State.flagLine]
@[simp] theorem flagLine_regs_l (s : State) (z n h c : Option Bool) : (s.flagLine z n h c).regs.l = s.regs.l := by
  simp [State.flagLine]
@[simp] theorem flagLine_regs_a (s : State) (z n h c : Option Bool) : (s.flagLine z n h c).regs.a = s.regs.a := by
  simp [State.flagLine]
@[simp] theorem flagLine_regs_sp (s : State) (z n h c : Option Bool) : (s.flagLine z n h c).regs.sp = s.regs.sp := by
  simp [State.flagLine]
@[simp] theorem flagLine_regs_pc (s : State) (z n h c : Option Bool) : (s.flagLine z n h c).regs.pc = s.regs.pc := by
  simp [State.flagLine]

/-! ## Ticks and memory -/

@[simp] theorem spend_regs (s : State) (n : Nat) : (s.spend n).regs = s.regs := rfl
@[simp] theorem spend_irq (s : State) (n : Nat) : (s.spend n).irq = s.irq := rfl
@[simp] theorem spend_disp_halted (s : State) (n : Nat) : (s.spend n).disp.halted = s.disp.halted := rfl
@[simp] theorem spend_disp_stopped (s : State) (n : Nat) : (s.spend n).disp.stopped = s.disp.stopped := rfl
@[simp] theorem spend_disp_fault (s : State) (n : Nat) : (s.spend n).disp.fault = s.disp.fault := rfl
@[simp] theorem spend_ppu (s : State) (n : Nat) : (s.spend n).ppu = s.ppu := rfl
@[simp] theorem spend_bus (s : State) (n : Nat) : (s.spend n).bus = s.bus := rfl
@[simp] theorem spend_host (s : State) (n : Nat) : (s.spend n).host = s.host := rfl
@[simp] theorem spend_params (s : State) (n : Nat) : (s.spend n).params = s.params := rfl
@[simp] theorem spend_disp_ticks (s : State) (n : Nat) : (s.spend n).disp.ticks = s.disp.ticks + n := rfl

@[simp] theorem setCell_regs (s : State) (k : Nat) (v : Byte) : (s.setCell k v).regs = s.regs := rfl
@[simp] theorem setCell_irq (s : State) (k : Nat) (v : Byte) : (s.setCell k v).irq = s.irq := rfl
@[simp] theorem setCell_disp (s : State) (k : Nat) (v : Byte) : (s.setCell k v).disp = s.disp := rfl
@[simp] theorem setCell_ppu (s : State) (k : Nat) (v : Byte) : (s.setCell k v).ppu = s.ppu := rfl
@[simp] theorem setCell_bus_dma (s : State) (k : Nat) (v : Byte) : (s.setCell k v).bus.dma = s.bus.dma := rfl
@[simp] theorem setCell_bus_joysel (s : State) (k : Nat) (v : Byte) : (s.setCell k v).bus.joysel = s.bus.joysel := rfl
@[simp] theorem setCell_host (s : State) (k : Nat) (v : Byte) : (s.setCell k v).host = s.host := rfl
@[simp] theorem setCell_params (s : State) (k : Nat) (v : Byte) : (s.setCell k v).params = s.params := rfl
@[simp] theorem setCell_bus_mem (s : State) (k : Nat) (v : Byte) : (s.setCell k v).bus.mem = s.bus.mem.write k v := rfl

/-! ## Register reads after register writes -/

@[simp] theorem getR_setR (s : State) (r q : Reg8) (v : Byte) : (s.setR r v).getR q = if q = r then v else s.getR q := by
  cases r <;> cases q <;> rfl

theorem getLsbD_cat (h l : Byte) (i : Nat) : (cat h l).getLsbD i = if i < 8 then l.getLsbD i else h.getLsbD (i - 8) :=
  BitVec.getLsbD_append

@[simp] theorem hiByte_cat (h l : Byte) : hiByte (cat h l) = h := by
  apply BitVec.eq_of_getLsbD_eq
  intro i hi
  simp [hiByte, getLsbD_cat, hi]

@[simp] theorem loByte_cat (h l : Byte) : loByte (cat h l) = l := by
  apply BitVec.eq_of_getLsbD_eq
  intro i hi
  simp [loByte, getLsbD_cat, hi]

@[simp] theorem cat_hiByte_loByte (v : Word) : cat (hiByte v) (loByte v) = v := by
  apply BitVec.eq_of_getLsbD_eq
  intro i hi
  rw [getLsbD_cat]
  split
  · simp [loByte, *]
  · have h1 : i - 8 < 8 := by omega
    have h2 : 8 + (i - 8) = i := by omega
    simp [hiByte, h1, h2]

end Sys2Proof.Machine
end

