-- ==== Sys2Proof/Laws/Bus.lean ====
section
/-! SUPPORT. What a bus read depends on, everything a bus write can do, and what the stack and the interrupt entry keep. -/

namespace Sys2Proof.Machine

/-! ## Reads -/

/-- A read depends on the bus, the masks, the video registers and the host's input, and on nothing else (R85). -/
theorem readByte_congr {s t : State} (k : Access) (a : Word) (hb : t.bus = s.bus) (hi : t.irq = s.irq)
    (hp : t.ppu = s.ppu) (hh : t.host = s.host) : t.readByte k a = s.readByte k a := by
  unfold State.readByte State.readSpecial State.sampleButtons State.cell
  rw [hb, hi, hp, hh]

theorem readByte_storage {a : Word} {s : State} (k : Access) (h : ∀ r, regionOf a ≠ .special r) :
    s.readByte k a = s.cell (storageKey a) := by
  unfold State.readByte
  split
  · rename_i r hr; exact absurd hr (h r)
  all_goals rfl

theorem storageKey_lt (a : Word) : storageKey a < 0x10000 := by
  have := a.isLt
  unfold storageKey
  split <;> omega

/-! ## Writes -/

/-- Everything `write_byte` can do (R61): nothing, one stored byte, or the write of a special register. -/
theorem writeByte_cases (s : State) (a : Word) (v : Byte) :
    (regionOf a = .rom ∧ s.writeByte a v = s) ∨
    (∃ r, regionOf a = .special r ∧ s.writeByte a v = s.writeSpecial r v) ∨
    (regionOf a ≠ .rom ∧ (∀ r, regionOf a ≠ .special r) ∧ s.writeByte a v = s.setCell (storageKey a) v) := by
  unfold State.writeByte
  cases h : regionOf a <;> simp

/-- An invariant of the copied bytes is one of the OAM copy. -/
theorem oamDma_induct {P : State → Prop} (s : State) (v : Byte) (h0 : P { s with bus.dma := v })
    (h : ∀ t i, i < 160 → P t → P (dmaByte v t i)) : P (s.oamDma v) := by
  have key : ∀ (l : List Nat) (t : State), (∀ i ∈ l, i < 160) → P t → P (l.foldl (dmaByte v) t) := by
    intro l
    induction l with
    | nil => exact fun _ _ ht => ht
    | cons i l ih =>
      intro t hl ht
      exact ih _ (fun j hj => hl j (by simp [hj])) (h t i (hl i (by simp)) ht)
  exact key _ _ (fun i hi => by simpa using hi) h0

/-- The OAM copy writes the DMA register and memory, and nothing else (R74). -/
theorem oamDma_frame (s : State) (v : Byte) :
    (s.oamDma v).regs = s.regs ∧ (s.oamDma v).irq = s.irq ∧ (s.oamDma v).disp = s.disp ∧ (s.oamDma v).ppu = s.ppu ∧
    (s.oamDma v).host = s.host ∧ (s.oamDma v).params = s.params ∧ (s.oamDma v).bus.joysel = s.bus.joysel ∧
    (s.oamDma v).bus.dma = v := by
  refine oamDma_induct (P := fun t => t.regs = s.regs ∧ t.irq = s.irq ∧ t.disp = s.disp ∧ t.ppu = s.ppu ∧
    t.host = s.host ∧ t.params = s.params ∧ t.bus.joysel = s.bus.joysel ∧ t.bus.dma = v) s v (by simp) ?_
  intro t i _ ht
  simpa [dmaByte] using ht

/-- A bus write leaves the registers, the dispatcher, the host's input and the parameters. -/
theorem writeByte_frame (s : State) (a : Word) (v : Byte) :
    (s.writeByte a v).regs = s.regs ∧ (s.writeByte a v).disp = s.disp ∧ (s.writeByte a v).host = s.host ∧
    (s.writeByte a v).params = s.params := by
  rcases writeByte_cases s a v with ⟨_, h⟩ | ⟨r, _, h⟩ | ⟨_, _, h⟩
  · simp [h]
  · rw [h]
    obtain ⟨h1, _, h2, _, h3, h4, _⟩ := oamDma_frame s v
    cases r <;> simp [State.writeSpecial, *]
  · simp [h]

@[simp] theorem writeByte_regs (s : State) (a : Word) (v : Byte) : (s.writeByte a v).regs = s.regs :=
  (writeByte_frame s a v).1
@[simp] theorem writeByte_disp (s : State) (a : Word) (v : Byte) : (s.writeByte a v).disp = s.disp :=
  (writeByte_frame s a v).2.1
@[simp] theorem writeByte_host (s : State) (a : Word) (v : Byte) : (s.writeByte a v).host = s.host :=
  (writeByte_frame s a v).2.2.1
@[simp] theorem writeByte_params (s : State) (a : Word) (v : Byte) : (s.writeByte a v).params = s.params :=
  (writeByte_frame s a v).2.2.2

/-- A bus write leaves IME and the video unit's own counters (LY is not written from the bus, R76). -/
theorem writeByte_keeps (s : State) (a : Word) (v : Byte) :
    (s.writeByte a v).irq.ime = s.irq.ime ∧ (s.writeByte a v).ppu.mode = s.ppu.mode ∧
    (s.writeByte a v).ppu.ly = s.ppu.ly ∧ (s.writeByte a v).ppu.acc = s.ppu.acc ∧
    (s.writeByte a v).ppu.seen = s.ppu.seen ∧ (s.writeByte a v).ppu.frame = s.ppu.frame := by
  rcases writeByte_cases s a v with ⟨_, h⟩ | ⟨r, _, h⟩ | ⟨_, _, h⟩
  · simp [h]
  · rw [h]
    obtain ⟨_, h1, _, h2, _⟩ := oamDma_frame s v
    cases r <;> simp [State.writeSpecial, *]
  · simp [h]

/-- Every bus write keeps the canonical form of memory. -/
theorem writeByte_wf {s : State} (hw : s.bus.mem.wf) (a : Word) (v : Byte) : (s.writeByte a v).bus.mem.wf := by
  rcases writeByte_cases s a v with ⟨_, h⟩ | ⟨r, _, h⟩ | ⟨_, _, h⟩
  · rwa [h]
  · rw [h]
    cases r
    case dma =>
      refine oamDma_induct (P := fun t => t.bus.mem.wf) s v hw ?_
      intro t i hi ht
      exact Memory.wf_write ht (by omega) _
    all_goals exact hw
  · rw [h]
    exact Memory.wf_write hw (storageKey_lt a) v

/-- Placing a program byte keeps the canonical form of memory. -/
theorem setCell_wf {s : State} (hw : s.bus.mem.wf) {k : Nat} (hk : k < 0x10000) (v : Byte) :
    (s.setCell k v).bus.mem.wf := Memory.wf_write hw hk v

/-- Memory after reset is in canonical form. -/
theorem reset_mem_wf : State.reset.bus.mem.wf := Memory.wf_nil

/-! ## Words and the stack -/

@[simp] theorem writeShort_regs (s : State) (a v : Word) : (s.writeShort a v).regs = s.regs := by simp [State.writeShort]
@[simp] theorem writeShort_disp (s : State) (a v : Word) : (s.writeShort a v).disp = s.disp := by simp [State.writeShort]
@[simp] theorem writeShort_host (s : State) (a v : Word) : (s.writeShort a v).host = s.host := by simp [State.writeShort]
@[simp] theorem writeShort_params (s : State) (a v : Word) : (s.writeShort a v).params = s.params := by
  simp [State.writeShort]

theorem writeShort_wf {s : State} (hw : s.bus.mem.wf) (a v : Word) : (s.writeShort a v).bus.mem.wf :=
  writeByte_wf (writeByte_wf hw _ _) _ _

@[simp] theorem push_regs (s : State) (v : Word) : (s.push v).regs = { s.regs with sp := s.regs.sp - 2 } := by
  simp only [State.push, writeShort_regs]; rfl
@[simp] theorem push_disp (s : State) (v : Word) : (s.push v).disp = s.disp := by simp [State.push]
@[simp] theorem push_host (s : State) (v : Word) : (s.push v).host = s.host := by simp [State.push]
@[simp] theorem push_params (s : State) (v : Word) : (s.push v).params = s.params := by simp [State.push]

theorem push_wf {s : State} (hw : s.bus.mem.wf) (v : Word) : (s.push v).bus.mem.wf :=
  writeShort_wf (s := s.setSP (s.regs.sp - 2)) (by exact hw) _ _

/-! ## Taking an interrupt -/

/-- What an interrupt entry leaves of the registers and the dispatcher (R315): only PC, SP, the waits and T change. -/
theorem takeInterrupt_regs (s : State) (i : IntSource) :
    (s.takeInterrupt i).regs = { s.regs with sp := s.regs.sp - 2, pc := i.vector } := by
  simp only [State.takeInterrupt, State.spend, State.setPC, push_regs]

theorem takeInterrupt_disp (s : State) (i : IntSource) :
    (s.takeInterrupt i).disp = { s.disp with halted := false, stopped := false, ticks := s.disp.ticks + 12 } := by
  simp only [State.takeInterrupt, State.spend, State.setPC, push_disp, dispatchCost]

@[simp] theorem takeInterrupt_params (s : State) (i : IntSource) : (s.takeInterrupt i).params = s.params := by
  simp [State.takeInterrupt]

/-- The interrupt step takes one of the five sources or does nothing (R313, R314). -/
theorem interruptStep_cases (s : State) :
    s.interruptStep = s ∨ ∃ i, s.chosenSource = some i ∧ s.irq.ime = true ∧ s.interruptStep = s.takeInterrupt i := by
  unfold State.interruptStep
  split
  · exact .inl rfl
  · rename_i h
    have hime : s.irq.ime = true := by
      cases hi : s.irq.ime <;> simp_all
    cases hc : s.chosenSource with
    | none => exact .inl rfl
    | some i => exact .inr ⟨i, rfl, hime, rfl⟩

theorem takeInterrupt_wf {s : State} (hw : s.bus.mem.wf) (i : IntSource) : (s.takeInterrupt i).bus.mem.wf :=
  push_wf (by exact hw) _

theorem interruptStep_wf {s : State} (hw : s.bus.mem.wf) : s.interruptStep.bus.mem.wf := by
  rcases interruptStep_cases s with h | ⟨i, _, _, h⟩
  · rwa [h]
  · rw [h]; exact takeInterrupt_wf hw i

end Sys2Proof.Machine
end

