-- ==== Sys2Proof/Laws/Flags.lean ====
section
/-! SUPPORT. A Flags line as one write of F, in the five shapes the instructions have, and what each flag then reads. -/

namespace Sys2Proof.Machine

/-- F of a Flags line: a flag the line names, else the flag as it was (R132). -/
def lineByte (f : Byte) (z n h c : Option Bool) : Byte :=
  flagByte (z.getD (f.getLsbD 7)) (n.getD (f.getLsbD 6)) (h.getD (f.getLsbD 5)) (c.getD (f.getLsbD 4))

theorem flagByte_bits (z n h c : Bool) (i : Nat) :
    (flagByte z n h c).getLsbD i =
      if i = 7 then z else if i = 6 then n else if i = 5 then h else if i = 4 then c else false := by
  by_cases hi : i < 8
  · revert z n h c
    interval_cases i <;> decide
  · rw [BitVec.getLsbD_of_ge _ _ (by omega)]
    rw [if_neg (by omega), if_neg (by omega), if_neg (by omega), if_neg (by omega)]

theorem flagZ_eq (s : State) : s.flagZ = s.regs.f.getLsbD 7 := by
  simp only [State.flagZ, State.getFlag, zMask]
  generalize s.regs.f = f
  revert f; decide
theorem flagN_eq (s : State) : s.flagN = s.regs.f.getLsbD 6 := by
  simp only [State.flagN, State.getFlag, nMask]
  generalize s.regs.f = f
  revert f; decide
theorem flagH_eq (s : State) : s.flagH = s.regs.f.getLsbD 5 := by
  simp only [State.flagH, State.getFlag, hMask]
  generalize s.regs.f = f
  revert f; decide
theorem flagC_eq (s : State) : s.flagC = s.regs.f.getLsbD 4 := by
  simp only [State.flagC, State.getFlag, cMask]
  generalize s.regs.f = f
  revert f; decide

/-- The four bits of one `set_flag` (R34). -/
theorem setFlag_bits (s : State) (j : Nat) (hj : 4 ≤ j ∧ j < 8) (b : Bool) (i : Nat) :
    (s.setFlag ((1 : Byte) <<< j) b).regs.f.getLsbD i =
      (decide (4 ≤ i ∧ i < 8) && if i = j then b else s.regs.f.getLsbD i) := by
  simp only [State.setFlag]
  generalize s.regs.f = f
  by_cases hi : i < 8
  · obtain ⟨h4, h8⟩ := hj
    cases b <;> interval_cases j <;> interval_cases i <;> simp
  · simp [BitVec.getLsbD_of_ge _ i (by omega : 8 ≤ i), hi]

theorem setFlag_eq (s : State) (mask : Byte) (b : Bool) :
    s.setFlag mask b = { s with regs.f := (s.setFlag mask b).regs.f } := rfl

/-- The four bits of one entry of a Flags line. -/
theorem flagEntry_bits (s : State) (j : Nat) (hj : 4 ≤ j ∧ j < 8) (x : Option Bool) (i : Nat) (hi : 4 ≤ i ∧ i < 8) :
    (s.flagEntry ((1 : Byte) <<< j) x).regs.f.getLsbD i = if i = j then x.getD (s.regs.f.getLsbD j) else s.regs.f.getLsbD i := by
  cases x with
  | none =>
    simp only [State.flagEntry, Option.getD_none]
    split <;> simp_all
  | some b =>
    simp only [State.flagEntry, setFlag_bits s j hj, Option.getD_some]
    rw [decide_eq_true hi, Bool.true_and]

theorem flagEntry_low (s : State) (j : Nat) (hj : 4 ≤ j ∧ j < 8) (x : Option Bool) (i : Nat) (hi : i < 4)
    (h : x.isSome = true ∨ s.regs.f.getLsbD i = false) : (s.flagEntry ((1 : Byte) <<< j) x).regs.f.getLsbD i = false := by
  cases x with
  | none => simpa [State.flagEntry] using h
  | some b =>
    simp only [State.flagEntry, setFlag_bits s j hj]
    simp
    omega

theorem flagEntry_eq (s : State) (mask : Byte) (x : Option Bool) :
    s.flagEntry mask x = { s with regs.f := (s.flagEntry mask x).regs.f } := by
  cases x <;> rfl

/-- A Flags line with an entry writes F, as one byte, and nothing else (R132). -/
theorem flagLine_eq (s : State) (z n h c : Option Bool) (hx : (z.isSome || n.isSome || h.isSome || c.isSome) = true) :
    s.flagLine z n h c = { s with regs.f := lineByte s.regs.f z n h c } := by
  have hf : s.flagLine z n h c = { s with regs.f := (s.flagLine z n h c).regs.f } := by
    unfold State.flagLine
    rw [flagEntry_eq _ cMask c, flagEntry_eq _ hMask h, flagEntry_eq _ nMask n, flagEntry_eq s zMask z]
  rw [hf]
  have hb : (s.flagLine z n h c).regs.f = lineByte s.regs.f z n h c := by
    apply BitVec.eq_of_getLsbD_eq
    intro i hi
    rw [lineByte, flagByte_bits]
    show ((((s.flagEntry ((1 : Byte) <<< 7) z).flagEntry ((1 : Byte) <<< 6) n).flagEntry ((1 : Byte) <<< 5) h).flagEntry
      ((1 : Byte) <<< 4) c).regs.f.getLsbD i = _
    by_cases h4 : 4 ≤ i
    · simp only [flagEntry_bits _ _ (by omega : 4 ≤ 4 ∧ 4 < 8) _ _ ⟨h4, hi⟩,
        flagEntry_bits _ _ (by omega : 4 ≤ 5 ∧ 5 < 8) _ _ ⟨h4, hi⟩,
        flagEntry_bits _ _ (by omega : 4 ≤ 6 ∧ 6 < 8) _ _ ⟨h4, hi⟩,
        flagEntry_bits _ _ (by omega : 4 ≤ 7 ∧ 7 < 8) _ _ ⟨h4, hi⟩,
        flagEntry_bits _ 7 (by omega) _ 4 (by omega), flagEntry_bits _ 7 (by omega) _ 5 (by omega),
        flagEntry_bits _ 7 (by omega) _ 6 (by omega), flagEntry_bits _ 6 (by omega) _ 4 (by omega),
        flagEntry_bits _ 6 (by omega) _ 5 (by omega), flagEntry_bits _ 5 (by omega) _ 4 (by omega)]
      interval_cases i <;> simp
    · have hi4 : i < 4 := by omega
      rw [if_neg (by omega), if_neg (by omega), if_neg (by omega), if_neg (by omega)]
      cases c
      · refine flagEntry_low _ 4 (by omega) _ _ hi4 (.inr ?_)
        cases h
        · refine flagEntry_low _ 5 (by omega) _ _ hi4 (.inr ?_)
          cases n
          · refine flagEntry_low _ 6 (by omega) _ _ hi4 (.inr ?_)
            exact flagEntry_low _ 7 (by omega) _ _ hi4 (.inl (by simpa using hx))
          · exact flagEntry_low _ 6 (by omega) _ _ hi4 (.inl rfl)
        · exact flagEntry_low _ 5 (by omega) _ _ hi4 (.inl rfl)
      · exact flagEntry_low _ 4 (by omega) _ _ hi4 (.inl rfl)
  rw [hb]

end Sys2Proof.Machine
end

