-- ==== Sys2Proof/Laws/Families.lean ====
section
/-! SUPPORT. For each family of constructors, the one shared operation its arms run, with the opcode byte its cost is
charged for; and the costs that a store does not change. -/

namespace Sys2Proof.Machine

/-! ## Costs -/

theorem costBase_congr {s t : State} (h : t.params = s.params) (op : Byte) : t.costBase op = s.costBase op := by
  simp only [State.costBase, h]

theorem costCB_congr {s t : State} (h : t.params = s.params) (op : Byte) : t.costCB op = s.costCB op := by
  simp only [State.costCB, h]

@[simp] theorem writeByte_costBase (s : State) (a : Word) (v op : Byte) : (s.writeByte a v).costBase op = s.costBase op :=
  costBase_congr (writeByte_params s a v) op

@[simp] theorem writeByte_costCB (s : State) (a : Word) (v op : Byte) : (s.writeByte a v).costCB op = s.costCB op :=
  costCB_congr (writeByte_params s a v) op

theorem costBase_default {s : State} (h : s.params = defaultParams) (op : Byte) :
    s.costBase op = defaultCostBase.getD op.toNat 0 := by
  simp only [State.costBase, h, defaultParams]

theorem costCB_default {s : State} (h : s.params = defaultParams) (op : Byte) :
    s.costCB op = defaultCostCB.getD op.toNat 0 := by
  simp only [State.costCB, h, defaultParams]

/-! ## Loads -/

theorem exec_ldRR (d r : Reg8) (s : State) :
    exec (.ldRR d r) s = .next (ldRegReg (0b01#2 ++ d.code ++ r.code) d r s) := by cases d <;> cases r <;> rfl
theorem exec_ldRN (d : Reg8) (n : Byte) (s : State) :
    exec (.ldRN d n) s = .next (ldRegImm (0b00#2 ++ d.code ++ 0b110#3) d n s) := by cases d <;> rfl
theorem exec_ldRM (d : Reg8) (s : State) :
    exec (.ldRM d) s = .next (ldRegMem (0b01#2 ++ d.code ++ 0b110#3) d s) := by cases d <;> rfl
theorem exec_ldMR (r : Reg8) (s : State) :
    exec (.ldMR r) s = .next (ldMemReg (0b01110#5 ++ r.code) r s) := by cases r <;> rfl
theorem exec_ldPN (p : Pair) (n : Word) (s : State) :
    exec (.ldPN p n) s = .next (ldPairImm (0b00#2 ++ p.code ++ 0b0001#4) p n s) := by cases p <;> rfl
theorem exec_push (p : StackPair) (s : State) :
    exec (.push p) s = .next (pushPair (0b11#2 ++ p.code ++ 0b0101#4) p s) := by cases p <;> rfl
theorem exec_pop (p : StackPair) (s : State) :
    exec (.pop p) s = .next (popPair (0b11#2 ++ p.code ++ 0b0001#4) p s) := by cases p <;> rfl

/-! ## Arithmetic -/

theorem exec_aluR (o : AluOp) (r : Reg8) (s : State) :
    exec (.aluR o r) s = .next (aluReg (0b10#2 ++ o.code ++ r.code) o r s) := by cases o <;> cases r <;> rfl
theorem exec_aluM (o : AluOp) (s : State) :
    exec (.aluM o) s = .next (aluMem (0b10#2 ++ o.code ++ 0b110#3) o s) := by cases o <;> rfl
theorem exec_aluN (o : AluOp) (n : Byte) (s : State) :
    exec (.aluN o n) s = .next (aluImm (0b11#2 ++ o.code ++ 0b110#3) o n s) := by cases o <;> rfl
theorem exec_incR (r : Reg8) (s : State) :
    exec (.incR r) s = .next (incReg (0b00#2 ++ r.code ++ 0b100#3) r s) := by cases r <;> rfl
theorem exec_decR (r : Reg8) (s : State) :
    exec (.decR r) s = .next (decReg (0b00#2 ++ r.code ++ 0b101#3) r s) := by cases r <;> rfl
theorem exec_addHL (p : Pair) (s : State) :
    exec (.addHL p) s = .next (addHLPair (0b00#2 ++ p.code ++ 0b1001#4) p s) := by cases p <;> rfl
theorem exec_incP (p : Pair) (s : State) :
    exec (.incP p) s = .next (incPair (0b00#2 ++ p.code ++ 0b0011#4) p s) := by cases p <;> rfl
theorem exec_decP (p : Pair) (s : State) :
    exec (.decP p) s = .next (decPair (0b00#2 ++ p.code ++ 0b1011#4) p s) := by cases p <;> rfl

/-- The ALU operation as one register update. -/
theorem applyAlu_eq (o : AluOp) (v : Byte) (s : State) :
    applyAlu o v s = { s with
      regs.a := if writesA o then (aluResult o s.regs.a v s.flagC).res else s.regs.a
      regs.f := flagByte (aluResult o s.regs.a v s.flagC).z (aluResult o s.regs.a v s.flagC).n
        (aluResult o s.regs.a v s.flagC).h (aluResult o s.regs.a v s.flagC).c } := by
  unfold applyAlu
  split <;> rw [flagLine_eq _ _ _ _ _ rfl] <;> rfl

/-! ## The extended table -/

theorem exec_shiftR (o : ShiftOp) (r : Reg8) (s : State) :
    exec (.shiftR o r) s = .next (cbShift (0b00#2 ++ o.code ++ r.code) o (.reg r) s) := by cases o <;> cases r <;> rfl
theorem exec_shiftM (o : ShiftOp) (s : State) :
    exec (.shiftM o) s = .next (cbShift (0b00#2 ++ o.code ++ 0b110#3) o .mHL s) := by cases o <;> rfl
theorem exec_bitR (b : BitNo) (r : Reg8) (s : State) :
    exec (.bitR b r) s = .next (cbBit (0b01#2 ++ b.code ++ r.code) b (.reg r) s) := by cases b <;> cases r <;> rfl
theorem exec_bitM (b : BitNo) (s : State) :
    exec (.bitM b) s = .next (cbBit (0b01#2 ++ b.code ++ 0b110#3) b .mHL s) := by cases b <;> rfl
theorem exec_resR (b : BitNo) (r : Reg8) (s : State) :
    exec (.resR b r) s = .next (cbRes (0b10#2 ++ b.code ++ r.code) b (.reg r) s) := by cases b <;> cases r <;> rfl
theorem exec_resM (b : BitNo) (s : State) :
    exec (.resM b) s = .next (cbRes (0b10#2 ++ b.code ++ 0b110#3) b .mHL s) := by cases b <;> rfl
theorem exec_setR (b : BitNo) (r : Reg8) (s : State) :
    exec (.setR b r) s = .next (cbSet (0b11#2 ++ b.code ++ r.code) b (.reg r) s) := by cases b <;> cases r <;> rfl
theorem exec_setM (b : BitNo) (s : State) :
    exec (.setM b) s = .next (cbSet (0b11#2 ++ b.code ++ 0b110#3) b .mHL s) := by cases b <;> rfl

/-! ## Control -/

theorem exec_jpC (c : Cond) (a : Word) (s : State) :
    exec (.jpC c a) s = .next (jumpCond (0b110#3 ++ c.code ++ 0b010#3) c a s) := by cases c <;> rfl
theorem exec_jrC (c : Cond) (e : Byte) (s : State) :
    exec (.jrC c e) s = .next (jumpRelCond (0b001#3 ++ c.code ++ 0b000#3) c e s) := by cases c <;> rfl
theorem exec_callC (c : Cond) (a : Word) (s : State) :
    exec (.callC c a) s = .next (callCond (0b110#3 ++ c.code ++ 0b100#3) c a s) := by cases c <;> rfl
theorem exec_retC (c : Cond) (s : State) :
    exec (.retC c) s = .next (retCond (0b110#3 ++ c.code ++ 0b000#3) c s) := by cases c <;> rfl
theorem exec_rst (y : BitNo) (s : State) :
    exec (.rst y) s = .next (callTo (0b11#2 ++ y.code ++ 0b111#3) (BitVec.ofNat 16 (8 * y.code.toNat)) s) := by
  cases y <;> rfl

end Sys2Proof.Machine
end

