-- ==== Sys2Proof/Laws/Host.lean ====
section
/-! SUPPORT. The host's actions: what a run of writes leaves in the memory, the ROM load, power-on and the user reset. -/

namespace Sys2Proof.Machine

/-! ## A run of writes -/

/-- Writing the values `f` at the distinct keys `g`, in any order: the canonical form stays, each key reads its value, and
every other key reads as before. -/
theorem Memory.foldl_write {β : Type} (g : β → Nat) (f : β → Byte) (l : List β) {m : Memory} (hw : m.wf)
    (hg : ∀ b ∈ l, g b < 0x10000) (hd : l.Pairwise (fun b c => g b ≠ g c)) :
    (l.foldl (fun m b => m.write (g b) (f b)) m).wf ∧
    (∀ b ∈ l, (l.foldl (fun m b => m.write (g b) (f b)) m).read (g b) = f b) ∧
    (∀ k, (∀ b ∈ l, g b ≠ k) → (l.foldl (fun m b => m.write (g b) (f b)) m).read k = m.read k) := by
  induction l generalizing m with
  | nil => exact ⟨hw, by simp, fun _ _ => rfl⟩
  | cons c rest ih =>
    obtain ⟨hc, hd⟩ := List.pairwise_cons.1 hd
    obtain ⟨h1, h2, h3⟩ := ih (Memory.wf_write hw (hg c (by simp)) (f c)) (fun b hb => hg b (by simp [hb])) hd
    refine ⟨h1, fun b hb => ?_, fun k hk => ?_⟩
    · rcases List.mem_cons.1 hb with rfl | hb
      · rw [List.foldl_cons, h3 _ fun d hd => (hc d hd).symm, Memory.read_write_same hw]
      · exact h2 b hb
    · rw [List.foldl_cons, h3 k fun b hb => hk b (by simp [hb]), Memory.read_write_other hw (hk c (by simp)).symm]

/-- The keys after a run of writes: the old ones and the written ones. -/
theorem Memory.mem_foldl_write {β : Type} (g : β → Nat) (f : β → Byte) (l : List β) {m : Memory} {p : Nat × Byte}
    (hp : p ∈ l.foldl (fun m b => m.write (g b) (f b)) m) : p ∈ m ∨ ∃ b ∈ l, p.1 = g b := by
  induction l generalizing m with
  | nil => exact .inl hp
  | cons c rest ih =>
    rcases ih hp with h | ⟨b, hb, h⟩
    · rcases Sparse.mem_set h with h | rfl
      · exact .inl h
      · exact .inr ⟨c, by simp, rfl⟩
    · exact .inr ⟨b, by simp [hb], h⟩

/-! ## The I/O block -/

theorem mem_ioIndices {i : Nat} : i ∈ ioIndices ↔ i < 128 ∧ regionOf (BitVec.ofNat 16 (0xFF00 + i)) = .io := by
  simp [ioIndices]

/-- A key is its address, or for an echo address the working RAM's (R69). -/
theorem storageKey_eq (a : Word) : (0xE000 ≤ a.toNat ∧ a.toNat < 0xFE00) ∧ storageKey a = a.toNat - 0x2000 ∨
    storageKey a = a.toNat := by
  simp only [storageKey]
  split
  · rename_i h
    refine .inl ⟨?_, rfl⟩
    simp only [regionOf] at h
    split_ifs at h
    · omega
    all_goals split at h <;> cases h
  all_goals exact .inr rfl

/-- The key of a byte of the I/O block comes from its index, and is that of no other region. -/
theorem io_index {a : Word} (h : regionOf a = .io) :
    0xFF00 ≤ a.toNat ∧ a.toNat - 0xFF00 ∈ ioIndices ∧ storageKey a = a.toNat := by
  have hk : storageKey a = a.toNat := by simp [storageKey, h]
  have hb : 0xFF00 ≤ a.toNat ∧ a.toNat < 0xFF80 := by
    simp only [regionOf] at h
    split_ifs at h <;> split at h <;> first | omega | cases h
  refine ⟨hb.1, mem_ioIndices.2 ⟨by omega, ?_⟩, hk⟩
  rw [Nat.add_sub_cancel' hb.1]
  simpa using h

/-- The keys of the I/O block belong to no other region. -/
theorem io_key_ne {a : Word} (h : regionOf a ≠ .io) : ∀ i ∈ ioIndices, 0xFF00 + i ≠ storageKey a := by
  intro i hm he
  obtain ⟨hlt, hr⟩ := mem_ioIndices.1 hm
  have ha : 0xFF00 + i = a.toNat := by rcases storageKey_eq a with ⟨h1, h2⟩ | h1 <;> omega
  rw [ha, BitVec.ofNat_toNat, BitVec.setWidth_eq] at hr
  exact h hr

/-- What seeding does (R362): the I/O block holds IoSeed, every other key reads as before, and the form stays. -/
theorem seedIo_spec (p : Params) {m : Memory} (hw : m.wf) :
    (seedIo p m).wf ∧ (∀ i ∈ ioIndices, (seedIo p m).read (0xFF00 + i) = p.ioSeed.getD i 0) ∧
    (∀ k, (∀ i ∈ ioIndices, 0xFF00 + i ≠ k) → (seedIo p m).read k = m.read k) :=
  Memory.foldl_write (fun i => 0xFF00 + i) (fun i => p.ioSeed.getD i 0) ioIndices hw
    (fun i hi => by have := (mem_ioIndices.1 hi).1; omega)
    (((List.nodup_range).filter _).imp fun h => by omega)

/-! ## The ROM image -/

/-- The memory of an image that fits: byte i at key i, every other key unlisted (R62, R363). -/
theorem romOf_spec {image : List Byte} (h : image.length ≤ 32768) :
    (romOf image).wf ∧ (∀ k, k < 0x8000 → (romOf image).read k = image.getD k 0) ∧
    (∀ k, 0x8000 ≤ k → (romOf image).read k = Memory.unlisted k) := by
  have hm {b : Byte × Nat} (hb : b ∈ image.zipIdx) : image[b.2]? = some b.1 := by
    simpa using List.mem_zipIdx_iff_getElem?.1 hb
  have hl {b : Byte × Nat} (hb : b ∈ image.zipIdx) : b.2 < image.length := (List.getElem?_eq_some_iff.1 (hm hb)).1
  obtain ⟨h1, h2, h3⟩ := Memory.foldl_write (fun b : Byte × Nat => b.2) (fun b => b.1) image.zipIdx Memory.wf_nil
    (fun b hb => by have := hl hb; omega)
    (by
      rw [List.pairwise_iff_getElem]
      intro i j hi hj hij
      simp only [List.getElem_zipIdx]
      omega)
  refine ⟨h1, fun k hk => ?_, fun k hk => h3 k fun b hb => by have := hl hb; omega⟩
  by_cases hi : k < image.length
  · have hb : (image[k], k) ∈ image.zipIdx := List.mem_zipIdx_iff_getElem?.2 (by simp [hi])
    rw [List.getD_eq_getElem _ _ hi]
    exact h2 _ hb
  · have hn : image.getD k 0 = 0 := by simp [List.getD, List.getElem?_eq_none (Nat.le_of_not_lt hi)]
    have hu : Memory.unlisted k = 0 := if_neg (by omega)
    rw [hn, ← hu]
    exact h3 k fun b hb => by have := hl hb; omega

/-! ## Power-on -/

@[simp] theorem powerOn_mem (p : Params) (rom : Memory) : (powerOn p rom).bus.mem = seedIo p rom := by rw [powerOn]

theorem powerOn_wf (p : Params) {rom : Memory} (hw : rom.wf) : (powerOn p rom).bus.mem.wf := by
  rw [powerOn_mem]; exact (seedIo_spec p hw).1

theorem isCellKey_io {i : Nat} (h : i ∈ ioIndices) : isCellKey (0xFF00 + i) = true := by
  have hall : ∀ j ∈ ioIndices, isCellKey (0xFF00 + j) = true := by decide +kernel
  exact hall i h

theorem isCellKey_rom {k : Nat} (h : k < 0x8000) : isCellKey k = true := by
  have hk : (BitVec.ofNat 16 k).toNat = k := by simp; omega
  have hr : regionOf (BitVec.ofNat 16 k) = .rom := by simp only [regionOf, hk, h, if_true]
  simp [isCellKey, isStorage, storageKey, hr, hk]; omega

theorem powerOn_keys (p : Params) {rom : Memory} (hk : ∀ q ∈ rom, isCellKey q.1 = true) :
    ∀ q ∈ (powerOn p rom).bus.mem, isCellKey q.1 = true := by
  intro q hq
  rw [powerOn_mem] at hq
  rcases Memory.mem_foldl_write (fun i => 0xFF00 + i) (fun i => p.ioSeed.getD i 0) ioIndices hq with h | ⟨i, hi, h⟩
  · exact hk q h
  · rw [h]; exact isCellKey_io hi

/-- `State.reset` is power-on under the default parameters with an empty image (R360, log 2, log 4). -/
theorem powerOn_default : powerOn defaultParams (romOf []) = State.reset := by decide +kernel

/-- Power-on over a ROM-only memory (R360, R362): the bytes below 0x8000 are the ROM's, the I/O block holds IoSeed, every
other address reads as in `State.reset`. -/
theorem powerOn_readByte (p : Params) {rom : Memory} (hw : rom.wf)
    (hr : ∀ k, 0x8000 ≤ k → rom.read k = Memory.unlisted k) (k : Access) (a : Word) :
    (a.toNat < 0x8000 → (powerOn p rom).readByte k a = rom.read a.toNat) ∧
    (regionOf a = .io → (powerOn p rom).readByte k a = p.ioSeed.getD (a.toNat - 0xFF00) 0) ∧
    (0x8000 ≤ a.toNat → regionOf a ≠ .io → (powerOn p rom).readByte k a = State.reset.readByte k a) := by
  obtain ⟨-, hi, ho⟩ := seedIo_spec p hw
  have hst (h : ∀ r, regionOf a ≠ .special r) : (powerOn p rom).readByte k a = (seedIo p rom).read (storageKey a) := by
    rw [readByte_storage k h, State.cell, powerOn]
  refine ⟨fun h => ?_, fun h => ?_, fun h hn => ?_⟩
  · have hr : regionOf a = .rom := by simp [regionOf, h]
    rw [hst (by simp [hr]), ho _ (io_key_ne (by simp [hr]))]
    simp [storageKey, hr]
  · obtain ⟨h1, h2, h3⟩ := io_index h
    rw [hst (by simp [h]), h3]
    simpa [Nat.add_sub_cancel' h1] using hi _ h2
  · by_cases hs : ∃ r, regionOf a = .special r
    · obtain ⟨r, hs⟩ := hs
      simp only [State.readByte, hs]
      cases r <;> simp [State.readSpecial, powerOn, State.sampleButtons]
    · have hs : ∀ r, regionOf a ≠ .special r := fun r hr => hs ⟨r, hr⟩
      rw [hst hs, readByte_storage k hs, ho _ (io_key_ne hn)]
      exact hr _ (by rcases storageKey_eq a with ⟨h', h''⟩ | h' <;> omega)

/-! ## The user reset -/

/-- The ROM part of a memory (R361): canonical, the bytes below 0x8000, nothing else. -/
theorem romPart_spec {m : Memory} (hw : m.wf) :
    Memory.wf (m.filter (fun p => p.1 < 0x8000)) ∧
    ∀ k, Memory.read (m.filter (fun p => p.1 < 0x8000)) k = if k < 0x8000 then m.read k else Memory.unlisted k := by
  refine ⟨⟨⟨hw.1.1.filter _, fun p hp => hw.1.2 p (List.mem_filter.1 hp).1⟩,
    fun p hp => hw.2 p (List.mem_filter.1 hp).1⟩, fun k => ?_⟩
  have hs := hw.1.1
  clear hw
  induction m with
  | nil => simp
  | cons q rest ih =>
    have ih := ih (List.pairwise_cons.1 hs).2
    simp only [Memory.read] at *
    by_cases hq : q.1 < 0x8000
    · simp only [List.filter_cons, hq, decide_true, if_true, Sparse.get, ih]
      split_ifs <;> first | rfl | omega
    · simp only [List.filter_cons, hq, decide_false, Sparse.get]
      split_ifs <;> first | rfl | (subst_vars; omega) | simp_all

/-- A user reset reads as power-on with the core's own parameters and ROM. -/
theorem userReset_readByte (s : State) (k : Access) (a : Word) :
    s.userReset.readByte k a = (powerOn s.params (s.bus.mem.filter (fun p => p.1 < 0x8000))).readByte k a := by
  by_cases hs : ∃ r, regionOf a = .special r
  · obtain ⟨r, hs⟩ := hs
    simp only [State.readByte, hs]
    cases r <;> simp [State.readSpecial, State.userReset, powerOn]
    rfl
  · have hs : ∀ r, regionOf a ≠ .special r := fun r hr => hs ⟨r, hr⟩
    rw [readByte_storage k hs, readByte_storage k hs]; rfl

/-! ## Placing an instruction -/

/-- What placing a byte in storage does: an address that names it reads it, every other address reads as before. -/
theorem place_read {s : State} (hw : s.bus.mem.wf) (k : Access) (p a : Word) (v : Byte) (hp : isStorage p = true) :
    (s.place p v).readByte k a = if storageKey a = storageKey p then v else s.readByte k a := by
  by_cases hs : ∃ r, regionOf a = .special r
  · obtain ⟨r, hs⟩ := hs
    have h1 : (s.place p v).readByte k a = s.readByte k a := by
      simp only [State.readByte, hs]; cases r <;> rfl
    rw [h1, if_neg]
    intro he
    have ha : storageKey a = a.toNat := by simp [storageKey, hs]
    have : a = p ∨ storageKey p ≠ a.toNat := by
      by_cases h : storageKey p = a.toNat
      · left
        rcases storageKey_eq p with ⟨⟨h1, h2⟩, h3⟩ | h3
        · exfalso
          have hn : a.toNat < 0xDE00 := by omega
          have hn' : 0xC000 ≤ a.toNat := by omega
          simp only [regionOf] at hs
          split_ifs at hs <;> omega
        · exact BitVec.eq_of_toNat_eq (by omega)
      · exact .inr h
    rcases this with rfl | h
    · simp [isStorage, hs] at hp
    · exact h (by rw [← he, ha])
  · have hs : ∀ r, regionOf a ≠ .special r := fun r hr => hs ⟨r, hr⟩
    rw [readByte_storage k hs, readByte_storage k hs]
    exact Memory.read_write hw _ _ _

theorem place_wf {s : State} (hw : s.bus.mem.wf) (p : Word) (v : Byte) : (s.place p v).bus.mem.wf :=
  Memory.wf_write hw (storageKey_lt p) v

@[simp] theorem place_regs (s : State) (p : Word) (v : Byte) : (s.place p v).regs = s.regs := rfl

/-- Three addresses in a row name three bytes. -/
theorem storageKey_next_ne (p : Word) :
    storageKey p ≠ storageKey (p + 1) ∧ storageKey p ≠ storageKey (p + 2) ∧ storageKey (p + 1) ≠ storageKey (p + 2) := by
  have a0 := storageKey_eq p
  have a1 := storageKey_eq (p + 1)
  have a2 := storageKey_eq (p + 2)
  have e1 : (p + 1).toNat = (p.toNat + 1) % 65536 := by simp [BitVec.toNat_add]
  have e2 : (p + 2).toNat = (p.toNat + 2) % 65536 := by simp [BitVec.toNat_add]
  have := p.isLt
  refine ⟨?_, ?_, ?_⟩ <;> omega

end Sys2Proof.Machine
end

