-- ==== Sys2Proof/Laws/Video.lean ====
section
/-! SUPPORT. The video-unit step and the core step: what each can do, said once. -/

namespace Sys2Proof.Machine

/-! ## The renderer -/

theorem drawColumn_length (s : State) (bg : List (BitVec 2)) (p : Sprite) (line : List RGB) (col : Nat) :
    (s.drawColumn bg p line col).length = line.length := by
  simp only [State.drawColumn]
  split <;> [split; skip] <;> simp

theorem drawSprite_length (s : State) (bg : List (BitVec 2)) (line : List RGB) (i : Nat) :
    (s.drawSprite bg line i).length = line.length := by
  have h (cols : List Nat) (l : List RGB) :
      (cols.foldl (s.drawColumn bg (s.sprite i)) l).length = l.length := by
    induction cols generalizing l with
    | nil => rfl
    | cons c rest ih => rw [List.foldl_cons, ih, drawColumn_length]
  simp only [State.drawSprite]
  split
  · exact h _ _
  · rfl

theorem drawSprites_length (s : State) (bg : List (BitVec 2)) (line : List RGB) :
    (s.drawSprites bg line).length = line.length := by
  have h (is : List Nat) (l : List RGB) : (is.foldl (s.drawSprite bg) l).length = l.length := by
    induction is generalizing l with
    | nil => rfl
    | cons i rest ih => rw [List.foldl_cons, ih, drawSprite_length]
  exact h _ _

theorem renderedLine_length (s : State) : s.renderedLine.length = 160 := by
  simp [State.renderedLine, drawSprites_length, State.bgLine]

/-! ## The video-unit step -/

/-- What the video-unit step can do: take the ticks, or take them and make one transition. -/
theorem ppuStep_cases (s : State) :
    s.consumeTicks.ppu.acc < threshold s.ppu.mode ∧ s.ppuStep = s.consumeTicks ∨
    threshold s.ppu.mode ≤ s.consumeTicks.ppu.acc ∧
      s.ppuStep =
        { s.consumeTicks with ppu.acc := s.consumeTicks.ppu.acc - threshold s.ppu.mode : State }.transition := by
  have hm : s.consumeTicks.ppu.mode = s.ppu.mode := rfl
  simp only [State.ppuStep, hm]
  split
  · exact .inr ⟨‹_›, rfl⟩
  · exact .inl ⟨Nat.lt_of_not_le ‹_›, rfl⟩

/-- What no transition changes. -/
theorem transition_frame (s : State) :
    s.transition.regs = s.regs ∧ s.transition.disp = s.disp ∧ s.transition.bus = s.bus ∧
    s.transition.host = s.host ∧ s.transition.params = s.params ∧ s.transition.irq.ime = s.irq.ime ∧
    s.transition.irq.ie = s.irq.ie ∧ s.transition.ppu.acc = s.ppu.acc ∧ s.transition.ppu.seen = s.ppu.seen := by
  unfold State.transition State.nextLine State.nextBlankLine
  cases s.ppu.mode <;> dsimp only <;> (repeat' split) <;> exact ⟨rfl, rfl, rfl, rfl, rfl, rfl, rfl, rfl, rfl⟩

/-- What no video-unit step changes, and `seen` after it. -/
theorem ppuStep_frame (s : State) :
    s.ppuStep.regs = s.regs ∧ s.ppuStep.disp = s.disp ∧ s.ppuStep.bus = s.bus ∧ s.ppuStep.host = s.host ∧
    s.ppuStep.params = s.params ∧ s.ppuStep.irq.ime = s.irq.ime ∧ s.ppuStep.irq.ie = s.irq.ie ∧
    s.ppuStep.ppu.seen = s.disp.ticks := by
  obtain ⟨-, h⟩ | ⟨-, h⟩ := ppuStep_cases s
  · rw [h]; exact ⟨rfl, rfl, rfl, rfl, rfl, rfl, rfl, rfl⟩
  · rw [h]
    obtain ⟨h1, h2, h3, h4, h5, h6, h7, -, h9⟩ := transition_frame
      { s.consumeTicks with ppu.acc := s.consumeTicks.ppu.acc - threshold s.ppu.mode : State }
    exact ⟨h1, h2, h3, h4, h5, h6, h7, h9⟩

/-- The one bit of IF a transition can set: bit 0, at line 144 with IE bit 0 set (R328). -/
theorem transition_ifr (s : State) :
    s.transition.irq.ifr = s.irq.ifr ∨
    s.ppu.mode = .hBlank ∧ s.ppu.ly + 1 = 144 ∧ s.irq.ie.getLsbD 0 = true ∧
      s.transition.irq.ifr = s.irq.ifr ||| 1 := by
  unfold State.transition State.nextLine State.nextBlankLine
  cases s.ppu.mode <;> dsimp only
  · exact .inl rfl
  · exact .inl rfl
  · split
    · split
      · exact .inr ⟨rfl, ‹_›, ‹_›, rfl⟩
      · exact .inl rfl
    · exact .inl rfl
  · split <;> exact .inl rfl

/-! ## The core step -/

/-- What a dispatcher step can do on a core that is not faulted: run the instruction at PC with any wait ended, or wait. -/
theorem dispatcherStep_cases (s : State) (hf : s.disp.fault = none) :
    (s.runsInstr = true ∧
      s.dispatcherStep = ({ s with disp.halted := false, disp.stopped := false } : State).executeNext) ∨
    (s.runsInstr = false ∧
      (s.dispatcherStep = .next s ∨ s.dispatcherStep = .next (s.spend s.params.haltIdleTicks))) := by
  obtain ⟨regs, irq, ⟨halted, stopped, fault, ticks⟩, ppu, bus, host, params⟩ := s
  subst hf
  simp only [State.dispatcherStep, State.haltedStep, State.pending, State.enabledPending, State.runsInstr]
  by_cases hp : irq.ie &&& irq.ifr = 0#5 <;> cases stopped <;> cases halted <;> simp [hp]

/-- What a core step can do: nothing when faulted; an idle step in one of the two waits; or the instruction at PC, with
any wait ended. After the last two comes `finishStep`. -/
theorem step_cases (s : State) :
    (s.disp.fault.isSome = true ∧ step s = .next s) ∨
    (s.disp.fault.isSome = false ∧ s.disp.stopped = true ∧ s.pending = false ∧ step s = .next s.finishStep) ∨
    (s.disp.fault.isSome = false ∧ s.disp.stopped = false ∧ s.disp.halted = true ∧ s.pending = false ∧
      step s = .next (s.spend s.params.haltIdleTicks).finishStep) ∨
    (s.disp.fault.isSome = false ∧ (s.disp.stopped = false ∧ s.disp.halted = false ∨ s.pending = true) ∧
      step s =
        match ({ s with disp.halted := false, disp.stopped := false } : State).executeNext with
        | .next t => .next t.finishStep
        | .fault r => .fault r
        | .refused r => .refused r) := by
  obtain ⟨regs, irq, ⟨halted, stopped, fault, ticks⟩, ppu, bus, host, params⟩ := s
  simp only [step, State.coreStep, State.dispatcherStep, State.haltedStep, State.pending, State.enabledPending]
  cases fault
  · by_cases hp : irq.ie &&& irq.ifr = 0 <;> cases stopped <;> cases halted <;> simp [hp] <;> (split <;> simp_all)
  · simp

end Sys2Proof.Machine
end

