-- ==== Sys2Proof/Tests/Slice0.lean ====
section
/-! SUPPORT. The model's own tests. Expected values come from spec/: the opcode grids and opcode_table.json (decoding, lengths,
costs) and 95_test_vectors.md (one core step each). After them a witness for every statement that has hypotheses. -/

namespace Sys2Proof.Tests

open Sys2Proof.Machine

/-! ## Well-formedness and decoding -/

theorem test_wellFormed_refuses_escape : (Instr.prefix_CB 0x37).wellFormed = false := by decide
theorem test_wellFormed_accepts_row : Instr.swap_A.wellFormed = true := by decide
theorem test_decode_no_bytes : decode [] = .error .noBytes := rfl
theorem test_decode_truncated : decode [0xC3, 0x00] = .error (.truncated 0xC3) := rfl
theorem test_decode_escape_row : decodeTableWord 8 0xCB = some (.prefix_CB 0) := by decide
theorem test_decode_extended_word : decodeTableWord 16 0xCB37 = some .swap_A := by decide

theorem test_decode_base_0x :
    [decode3 0x00 0x34 0x12, decode3 0x01 0x34 0x12, decode3 0x02 0x34 0x12, decode3 0x03 0x34 0x12,
     decode3 0x04 0x34 0x12, decode3 0x05 0x34 0x12, decode3 0x06 0x34 0x12, decode3 0x07 0x34 0x12,
     decode3 0x08 0x34 0x12, decode3 0x09 0x34 0x12, decode3 0x0A 0x34 0x12, decode3 0x0B 0x34 0x12,
     decode3 0x0C 0x34 0x12, decode3 0x0D 0x34 0x12, decode3 0x0E 0x34 0x12, decode3 0x0F 0x34 0x12] =
    [.nop, .ld_BC_n16 0x1234, .ld_mBC_A, .inc_BC, .inc_B, .dec_B, .ld_B_n8 0x34, .rlca, .ld_ma16_SP 0x1234,
     .add_HL_BC, .ld_A_mBC, .dec_BC, .inc_C, .dec_C, .ld_C_n8 0x34, .rrca] := by decide

theorem test_decode_base_1x :
    [decode3 0x10 0x34 0x12, decode3 0x11 0x34 0x12, decode3 0x12 0x34 0x12, decode3 0x13 0x34 0x12,
     decode3 0x14 0x34 0x12, decode3 0x15 0x34 0x12, decode3 0x16 0x34 0x12, decode3 0x17 0x34 0x12,
     decode3 0x18 0x34 0x12, decode3 0x19 0x34 0x12, decode3 0x1A 0x34 0x12, decode3 0x1B 0x34 0x12,
     decode3 0x1C 0x34 0x12, decode3 0x1D 0x34 0x12, decode3 0x1E 0x34 0x12, decode3 0x1F 0x34 0x12] =
    [.stop 0x34, .ld_DE_n16 0x1234, .ld_mDE_A, .inc_DE, .inc_D, .dec_D, .ld_D_n8 0x34, .rla, .jr_e8 0x34,
     .add_HL_DE, .ld_A_mDE, .dec_DE, .inc_E, .dec_E, .ld_E_n8 0x34, .rra] := by decide

theorem test_decode_base_2x :
    [decode3 0x20 0x34 0x12, decode3 0x21 0x34 0x12, decode3 0x22 0x34 0x12, decode3 0x23 0x34 0x12,
     decode3 0x24 0x34 0x12, decode3 0x25 0x34 0x12, decode3 0x26 0x34 0x12, decode3 0x27 0x34 0x12,
     decode3 0x28 0x34 0x12, decode3 0x29 0x34 0x12, decode3 0x2A 0x34 0x12, decode3 0x2B 0x34 0x12,
     decode3 0x2C 0x34 0x12, decode3 0x2D 0x34 0x12, decode3 0x2E 0x34 0x12, decode3 0x2F 0x34 0x12] =
    [.jr_NZ_e8 0x34, .ld_HL_n16 0x1234, .ld_mHLi_A, .inc_HL, .inc_H, .dec_H, .ld_H_n8 0x34, .daa, .jr_Z_e8 0x34,
     .add_HL_HL, .ld_A_mHLi, .dec_HL, .inc_L, .dec_L, .ld_L_n8 0x34, .cpl] := by decide

theorem test_decode_base_3x :
    [decode3 0x30 0x34 0x12, decode3 0x31 0x34 0x12, decode3 0x32 0x34 0x12, decode3 0x33 0x34 0x12,
     decode3 0x34 0x34 0x12, decode3 0x35 0x34 0x12, decode3 0x36 0x34 0x12, decode3 0x37 0x34 0x12,
     decode3 0x38 0x34 0x12, decode3 0x39 0x34 0x12, decode3 0x3A 0x34 0x12, decode3 0x3B 0x34 0x12,
     decode3 0x3C 0x34 0x12, decode3 0x3D 0x34 0x12, decode3 0x3E 0x34 0x12, decode3 0x3F 0x34 0x12] =
    [.jr_NC_e8 0x34, .ld_SP_n16 0x1234, .ld_mHLd_A, .inc_SP, .inc_mHL, .dec_mHL, .ld_mHL_n8 0x34, .scf,
     .jr_C_e8 0x34, .add_HL_SP, .ld_A_mHLd, .dec_SP, .inc_A, .dec_A, .ld_A_n8 0x34, .ccf] := by decide

theorem test_decode_base_4x :
    [decode3 0x40 0x34 0x12, decode3 0x41 0x34 0x12, decode3 0x42 0x34 0x12, decode3 0x43 0x34 0x12,
     decode3 0x44 0x34 0x12, decode3 0x45 0x34 0x12, decode3 0x46 0x34 0x12, decode3 0x47 0x34 0x12,
     decode3 0x48 0x34 0x12, decode3 0x49 0x34 0x12, decode3 0x4A 0x34 0x12, decode3 0x4B 0x34 0x12,
     decode3 0x4C 0x34 0x12, decode3 0x4D 0x34 0x12, decode3 0x4E 0x34 0x12, decode3 0x4F 0x34 0x12] =
    [.ld_B_B, .ld_B_C, .ld_B_D, .ld_B_E, .ld_B_H, .ld_B_L, .ld_B_mHL, .ld_B_A, .ld_C_B, .ld_C_C, .ld_C_D, .ld_C_E,
     .ld_C_H, .ld_C_L, .ld_C_mHL, .ld_C_A] := by decide

theorem test_decode_base_5x :
    [decode3 0x50 0x34 0x12, decode3 0x51 0x34 0x12, decode3 0x52 0x34 0x12, decode3 0x53 0x34 0x12,
     decode3 0x54 0x34 0x12, decode3 0x55 0x34 0x12, decode3 0x56 0x34 0x12, decode3 0x57 0x34 0x12,
     decode3 0x58 0x34 0x12, decode3 0x59 0x34 0x12, decode3 0x5A 0x34 0x12, decode3 0x5B 0x34 0x12,
     decode3 0x5C 0x34 0x12, decode3 0x5D 0x34 0x12, decode3 0x5E 0x34 0x12, decode3 0x5F 0x34 0x12] =
    [.ld_D_B, .ld_D_C, .ld_D_D, .ld_D_E, .ld_D_H, .ld_D_L, .ld_D_mHL, .ld_D_A, .ld_E_B, .ld_E_C, .ld_E_D, .ld_E_E,
     .ld_E_H, .ld_E_L, .ld_E_mHL, .ld_E_A] := by decide

theorem test_decode_base_6x :
    [decode3 0x60 0x34 0x12, decode3 0x61 0x34 0x12, decode3 0x62 0x34 0x12, decode3 0x63 0x34 0x12,
     decode3 0x64 0x34 0x12, decode3 0x65 0x34 0x12, decode3 0x66 0x34 0x12, decode3 0x67 0x34 0x12,
     decode3 0x68 0x34 0x12, decode3 0x69 0x34 0x12, decode3 0x6A 0x34 0x12, decode3 0x6B 0x34 0x12,
     decode3 0x6C 0x34 0x12, decode3 0x6D 0x34 0x12, decode3 0x6E 0x34 0x12, decode3 0x6F 0x34 0x12] =
    [.ld_H_B, .ld_H_C, .ld_H_D, .ld_H_E, .ld_H_H, .ld_H_L, .ld_H_mHL, .ld_H_A, .ld_L_B, .ld_L_C, .ld_L_D, .ld_L_E,
     .ld_L_H, .ld_L_L, .ld_L_mHL, .ld_L_A] := by decide

theorem test_decode_base_7x :
    [decode3 0x70 0x34 0x12, decode3 0x71 0x34 0x12, decode3 0x72 0x34 0x12, decode3 0x73 0x34 0x12,
     decode3 0x74 0x34 0x12, decode3 0x75 0x34 0x12, decode3 0x76 0x34 0x12, decode3 0x77 0x34 0x12,
     decode3 0x78 0x34 0x12, decode3 0x79 0x34 0x12, decode3 0x7A 0x34 0x12, decode3 0x7B 0x34 0x12,
     decode3 0x7C 0x34 0x12, decode3 0x7D 0x34 0x12, decode3 0x7E 0x34 0x12, decode3 0x7F 0x34 0x12] =
    [.ld_mHL_B, .ld_mHL_C, .ld_mHL_D, .ld_mHL_E, .ld_mHL_H, .ld_mHL_L, .halt, .ld_mHL_A, .ld_A_B, .ld_A_C, .ld_A_D,
     .ld_A_E, .ld_A_H, .ld_A_L, .ld_A_mHL, .ld_A_A] := by decide

theorem test_decode_base_8x :
    [decode3 0x80 0x34 0x12, decode3 0x81 0x34 0x12, decode3 0x82 0x34 0x12, decode3 0x83 0x34 0x12,
     decode3 0x84 0x34 0x12, decode3 0x85 0x34 0x12, decode3 0x86 0x34 0x12, decode3 0x87 0x34 0x12,
     decode3 0x88 0x34 0x12, decode3 0x89 0x34 0x12, decode3 0x8A 0x34 0x12, decode3 0x8B 0x34 0x12,
     decode3 0x8C 0x34 0x12, decode3 0x8D 0x34 0x12, decode3 0x8E 0x34 0x12, decode3 0x8F 0x34 0x12] =
    [.add_A_B, .add_A_C, .add_A_D, .add_A_E, .add_A_H, .add_A_L, .add_A_mHL, .add_A_A, .adc_A_B, .adc_A_C,
     .adc_A_D, .adc_A_E, .adc_A_H, .adc_A_L, .adc_A_mHL, .adc_A_A] := by decide

theorem test_decode_base_9x :
    [decode3 0x90 0x34 0x12, decode3 0x91 0x34 0x12, decode3 0x92 0x34 0x12, decode3 0x93 0x34 0x12,
     decode3 0x94 0x34 0x12, decode3 0x95 0x34 0x12, decode3 0x96 0x34 0x12, decode3 0x97 0x34 0x12,
     decode3 0x98 0x34 0x12, decode3 0x99 0x34 0x12, decode3 0x9A 0x34 0x12, decode3 0x9B 0x34 0x12,
     decode3 0x9C 0x34 0x12, decode3 0x9D 0x34 0x12, decode3 0x9E 0x34 0x12, decode3 0x9F 0x34 0x12] =
    [.sub_B, .sub_C, .sub_D, .sub_E, .sub_H, .sub_L, .sub_mHL, .sub_A, .sbc_A_B, .sbc_A_C, .sbc_A_D, .sbc_A_E,
     .sbc_A_H, .sbc_A_L, .sbc_A_mHL, .sbc_A_A] := by decide

theorem test_decode_base_Ax :
    [decode3 0xA0 0x34 0x12, decode3 0xA1 0x34 0x12, decode3 0xA2 0x34 0x12, decode3 0xA3 0x34 0x12,
     decode3 0xA4 0x34 0x12, decode3 0xA5 0x34 0x12, decode3 0xA6 0x34 0x12, decode3 0xA7 0x34 0x12,
     decode3 0xA8 0x34 0x12, decode3 0xA9 0x34 0x12, decode3 0xAA 0x34 0x12, decode3 0xAB 0x34 0x12,
     decode3 0xAC 0x34 0x12, decode3 0xAD 0x34 0x12, decode3 0xAE 0x34 0x12, decode3 0xAF 0x34 0x12] =
    [.and_B, .and_C, .and_D, .and_E, .and_H, .and_L, .and_mHL, .and_A, .xor_B, .xor_C, .xor_D, .xor_E, .xor_H,
     .xor_L, .xor_mHL, .xor_A] := by decide

theorem test_decode_base_Bx :
    [decode3 0xB0 0x34 0x12, decode3 0xB1 0x34 0x12, decode3 0xB2 0x34 0x12, decode3 0xB3 0x34 0x12,
     decode3 0xB4 0x34 0x12, decode3 0xB5 0x34 0x12, decode3 0xB6 0x34 0x12, decode3 0xB7 0x34 0x12,
     decode3 0xB8 0x34 0x12, decode3 0xB9 0x34 0x12, decode3 0xBA 0x34 0x12, decode3 0xBB 0x34 0x12,
     decode3 0xBC 0x34 0x12, decode3 0xBD 0x34 0x12, decode3 0xBE 0x34 0x12, decode3 0xBF 0x34 0x12] =
    [.or_B, .or_C, .or_D, .or_E, .or_H, .or_L, .or_mHL, .or_A, .cp_B, .cp_C, .cp_D, .cp_E, .cp_H, .cp_L, .cp_mHL,
     .cp_A] := by decide

theorem test_decode_base_Cx :
    [decode3 0xC0 0x34 0x12, decode3 0xC1 0x34 0x12, decode3 0xC2 0x34 0x12, decode3 0xC3 0x34 0x12,
     decode3 0xC4 0x34 0x12, decode3 0xC5 0x34 0x12, decode3 0xC6 0x34 0x12, decode3 0xC7 0x34 0x12,
     decode3 0xC8 0x34 0x12, decode3 0xC9 0x34 0x12, decode3 0xCA 0x34 0x12, decode3 0xCC 0x34 0x12,
     decode3 0xCD 0x34 0x12, decode3 0xCE 0x34 0x12, decode3 0xCF 0x34 0x12] =
    [.ret_NZ, .pop_BC, .jp_NZ_a16 0x1234, .jp_a16 0x1234, .call_NZ_a16 0x1234, .push_BC, .add_A_n8 0x34, .rst_00H,
     .ret_Z, .ret, .jp_Z_a16 0x1234, .call_Z_a16 0x1234, .call_a16 0x1234, .adc_A_n8 0x34, .rst_08H] := by decide

theorem test_decode_base_Dx :
    [decode3 0xD0 0x34 0x12, decode3 0xD1 0x34 0x12, decode3 0xD2 0x34 0x12, decode3 0xD3 0x34 0x12,
     decode3 0xD4 0x34 0x12, decode3 0xD5 0x34 0x12, decode3 0xD6 0x34 0x12, decode3 0xD7 0x34 0x12,
     decode3 0xD8 0x34 0x12, decode3 0xD9 0x34 0x12, decode3 0xDA 0x34 0x12, decode3 0xDB 0x34 0x12,
     decode3 0xDC 0x34 0x12, decode3 0xDD 0x34 0x12, decode3 0xDE 0x34 0x12, decode3 0xDF 0x34 0x12] =
    [.ret_NC, .pop_DE, .jp_NC_a16 0x1234, .undefined_D3, .call_NC_a16 0x1234, .push_DE, .sub_n8 0x34, .rst_10H,
     .ret_C, .reti, .jp_C_a16 0x1234, .undefined_DB, .call_C_a16 0x1234, .undefined_DD, .sbc_A_n8 0x34, .rst_18H] := by decide

theorem test_decode_base_Ex :
    [decode3 0xE0 0x34 0x12, decode3 0xE1 0x34 0x12, decode3 0xE2 0x34 0x12, decode3 0xE3 0x34 0x12,
     decode3 0xE4 0x34 0x12, decode3 0xE5 0x34 0x12, decode3 0xE6 0x34 0x12, decode3 0xE7 0x34 0x12,
     decode3 0xE8 0x34 0x12, decode3 0xE9 0x34 0x12, decode3 0xEA 0x34 0x12, decode3 0xEB 0x34 0x12,
     decode3 0xEC 0x34 0x12, decode3 0xED 0x34 0x12, decode3 0xEE 0x34 0x12, decode3 0xEF 0x34 0x12] =
    [.ldh_ma8_A 0x34, .pop_HL, .ld_mC_A, .undefined_E3, .undefined_E4, .push_HL, .and_n8 0x34, .rst_20H,
     .add_SP_e8 0x34, .jp_HL, .ld_ma16_A 0x1234, .undefined_EB, .undefined_EC, .undefined_ED, .xor_n8 0x34,
     .rst_28H] := by decide

theorem test_decode_base_Fx :
    [decode3 0xF0 0x34 0x12, decode3 0xF1 0x34 0x12, decode3 0xF2 0x34 0x12, decode3 0xF3 0x34 0x12,
     decode3 0xF4 0x34 0x12, decode3 0xF5 0x34 0x12, decode3 0xF6 0x34 0x12, decode3 0xF7 0x34 0x12,
     decode3 0xF8 0x34 0x12, decode3 0xF9 0x34 0x12, decode3 0xFA 0x34 0x12, decode3 0xFB 0x34 0x12,
     decode3 0xFC 0x34 0x12, decode3 0xFD 0x34 0x12, decode3 0xFE 0x34 0x12, decode3 0xFF 0x34 0x12] =
    [.ldh_A_ma8 0x34, .pop_AF, .ld_A_mC, .di, .undefined_F4, .push_AF, .or_n8 0x34, .rst_30H, .ld_HL_SPe8 0x34,
     .ld_SP_HL, .ld_A_ma16 0x1234, .ei, .undefined_FC, .undefined_FD, .cp_n8 0x34, .rst_38H] := by decide

theorem test_decode_extended_0x :
    [decode3 0xCB 0x00 0x12, decode3 0xCB 0x01 0x12, decode3 0xCB 0x02 0x12, decode3 0xCB 0x03 0x12,
     decode3 0xCB 0x04 0x12, decode3 0xCB 0x05 0x12, decode3 0xCB 0x06 0x12, decode3 0xCB 0x07 0x12,
     decode3 0xCB 0x08 0x12, decode3 0xCB 0x09 0x12, decode3 0xCB 0x0A 0x12, decode3 0xCB 0x0B 0x12,
     decode3 0xCB 0x0C 0x12, decode3 0xCB 0x0D 0x12, decode3 0xCB 0x0E 0x12, decode3 0xCB 0x0F 0x12] =
    [.rlc_B, .rlc_C, .rlc_D, .rlc_E, .rlc_H, .rlc_L, .rlc_mHL, .rlc_A, .rrc_B, .rrc_C, .rrc_D, .rrc_E, .rrc_H,
     .rrc_L, .rrc_mHL, .rrc_A] := by decide

theorem test_decode_extended_1x :
    [decode3 0xCB 0x10 0x12, decode3 0xCB 0x11 0x12, decode3 0xCB 0x12 0x12, decode3 0xCB 0x13 0x12,
     decode3 0xCB 0x14 0x12, decode3 0xCB 0x15 0x12, decode3 0xCB 0x16 0x12, decode3 0xCB 0x17 0x12,
     decode3 0xCB 0x18 0x12, decode3 0xCB 0x19 0x12, decode3 0xCB 0x1A 0x12, decode3 0xCB 0x1B 0x12,
     decode3 0xCB 0x1C 0x12, decode3 0xCB 0x1D 0x12, decode3 0xCB 0x1E 0x12, decode3 0xCB 0x1F 0x12] =
    [.rl_B, .rl_C, .rl_D, .rl_E, .rl_H, .rl_L, .rl_mHL, .rl_A, .rr_B, .rr_C, .rr_D, .rr_E, .rr_H, .rr_L, .rr_mHL,
     .rr_A] := by decide

theorem test_decode_extended_2x :
    [decode3 0xCB 0x20 0x12, decode3 0xCB 0x21 0x12, decode3 0xCB 0x22 0x12, decode3 0xCB 0x23 0x12,
     decode3 0xCB 0x24 0x12, decode3 0xCB 0x25 0x12, decode3 0xCB 0x26 0x12, decode3 0xCB 0x27 0x12,
     decode3 0xCB 0x28 0x12, decode3 0xCB 0x29 0x12, decode3 0xCB 0x2A 0x12, decode3 0xCB 0x2B 0x12,
     decode3 0xCB 0x2C 0x12, decode3 0xCB 0x2D 0x12, decode3 0xCB 0x2E 0x12, decode3 0xCB 0x2F 0x12] =
    [.sla_B, .sla_C, .sla_D, .sla_E, .sla_H, .sla_L, .sla_mHL, .sla_A, .sra_B, .sra_C, .sra_D, .sra_E, .sra_H,
     .sra_L, .sra_mHL, .sra_A] := by decide

theorem test_decode_extended_3x :
    [decode3 0xCB 0x30 0x12, decode3 0xCB 0x31 0x12, decode3 0xCB 0x32 0x12, decode3 0xCB 0x33 0x12,
     decode3 0xCB 0x34 0x12, decode3 0xCB 0x35 0x12, decode3 0xCB 0x36 0x12, decode3 0xCB 0x37 0x12,
     decode3 0xCB 0x38 0x12, decode3 0xCB 0x39 0x12, decode3 0xCB 0x3A 0x12, decode3 0xCB 0x3B 0x12,
     decode3 0xCB 0x3C 0x12, decode3 0xCB 0x3D 0x12, decode3 0xCB 0x3E 0x12, decode3 0xCB 0x3F 0x12] =
    [.swap_B, .swap_C, .swap_D, .swap_E, .swap_H, .swap_L, .swap_mHL, .swap_A, .srl_B, .srl_C, .srl_D, .srl_E,
     .srl_H, .srl_L, .srl_mHL, .srl_A] := by decide

theorem test_decode_extended_4x :
    [decode3 0xCB 0x40 0x12, decode3 0xCB 0x41 0x12, decode3 0xCB 0x42 0x12, decode3 0xCB 0x43 0x12,
     decode3 0xCB 0x44 0x12, decode3 0xCB 0x45 0x12, decode3 0xCB 0x46 0x12, decode3 0xCB 0x47 0x12,
     decode3 0xCB 0x48 0x12, decode3 0xCB 0x49 0x12, decode3 0xCB 0x4A 0x12, decode3 0xCB 0x4B 0x12,
     decode3 0xCB 0x4C 0x12, decode3 0xCB 0x4D 0x12, decode3 0xCB 0x4E 0x12, decode3 0xCB 0x4F 0x12] =
    [.bit_0_B, .bit_0_C, .bit_0_D, .bit_0_E, .bit_0_H, .bit_0_L, .bit_0_mHL, .bit_0_A, .bit_1_B, .bit_1_C,
     .bit_1_D, .bit_1_E, .bit_1_H, .bit_1_L, .bit_1_mHL, .bit_1_A] := by decide

theorem test_decode_extended_5x :
    [decode3 0xCB 0x50 0x12, decode3 0xCB 0x51 0x12, decode3 0xCB 0x52 0x12, decode3 0xCB 0x53 0x12,
     decode3 0xCB 0x54 0x12, decode3 0xCB 0x55 0x12, decode3 0xCB 0x56 0x12, decode3 0xCB 0x57 0x12,
     decode3 0xCB 0x58 0x12, decode3 0xCB 0x59 0x12, decode3 0xCB 0x5A 0x12, decode3 0xCB 0x5B 0x12,
     decode3 0xCB 0x5C 0x12, decode3 0xCB 0x5D 0x12, decode3 0xCB 0x5E 0x12, decode3 0xCB 0x5F 0x12] =
    [.bit_2_B, .bit_2_C, .bit_2_D, .bit_2_E, .bit_2_H, .bit_2_L, .bit_2_mHL, .bit_2_A, .bit_3_B, .bit_3_C,
     .bit_3_D, .bit_3_E, .bit_3_H, .bit_3_L, .bit_3_mHL, .bit_3_A] := by decide

theorem test_decode_extended_6x :
    [decode3 0xCB 0x60 0x12, decode3 0xCB 0x61 0x12, decode3 0xCB 0x62 0x12, decode3 0xCB 0x63 0x12,
     decode3 0xCB 0x64 0x12, decode3 0xCB 0x65 0x12, decode3 0xCB 0x66 0x12, decode3 0xCB 0x67 0x12,
     decode3 0xCB 0x68 0x12, decode3 0xCB 0x69 0x12, decode3 0xCB 0x6A 0x12, decode3 0xCB 0x6B 0x12,
     decode3 0xCB 0x6C 0x12, decode3 0xCB 0x6D 0x12, decode3 0xCB 0x6E 0x12, decode3 0xCB 0x6F 0x12] =
    [.bit_4_B, .bit_4_C, .bit_4_D, .bit_4_E, .bit_4_H, .bit_4_L, .bit_4_mHL, .bit_4_A, .bit_5_B, .bit_5_C,
     .bit_5_D, .bit_5_E, .bit_5_H, .bit_5_L, .bit_5_mHL, .bit_5_A] := by decide

theorem test_decode_extended_7x :
    [decode3 0xCB 0x70 0x12, decode3 0xCB 0x71 0x12, decode3 0xCB 0x72 0x12, decode3 0xCB 0x73 0x12,
     decode3 0xCB 0x74 0x12, decode3 0xCB 0x75 0x12, decode3 0xCB 0x76 0x12, decode3 0xCB 0x77 0x12,
     decode3 0xCB 0x78 0x12, decode3 0xCB 0x79 0x12, decode3 0xCB 0x7A 0x12, decode3 0xCB 0x7B 0x12,
     decode3 0xCB 0x7C 0x12, decode3 0xCB 0x7D 0x12, decode3 0xCB 0x7E 0x12, decode3 0xCB 0x7F 0x12] =
    [.bit_6_B, .bit_6_C, .bit_6_D, .bit_6_E, .bit_6_H, .bit_6_L, .bit_6_mHL, .bit_6_A, .bit_7_B, .bit_7_C,
     .bit_7_D, .bit_7_E, .bit_7_H, .bit_7_L, .bit_7_mHL, .bit_7_A] := by decide

theorem test_decode_extended_8x :
    [decode3 0xCB 0x80 0x12, decode3 0xCB 0x81 0x12, decode3 0xCB 0x82 0x12, decode3 0xCB 0x83 0x12,
     decode3 0xCB 0x84 0x12, decode3 0xCB 0x85 0x12, decode3 0xCB 0x86 0x12, decode3 0xCB 0x87 0x12,
     decode3 0xCB 0x88 0x12, decode3 0xCB 0x89 0x12, decode3 0xCB 0x8A 0x12, decode3 0xCB 0x8B 0x12,
     decode3 0xCB 0x8C 0x12, decode3 0xCB 0x8D 0x12, decode3 0xCB 0x8E 0x12, decode3 0xCB 0x8F 0x12] =
    [.res_0_B, .res_0_C, .res_0_D, .res_0_E, .res_0_H, .res_0_L, .res_0_mHL, .res_0_A, .res_1_B, .res_1_C,
     .res_1_D, .res_1_E, .res_1_H, .res_1_L, .res_1_mHL, .res_1_A] := by decide

theorem test_decode_extended_9x :
    [decode3 0xCB 0x90 0x12, decode3 0xCB 0x91 0x12, decode3 0xCB 0x92 0x12, decode3 0xCB 0x93 0x12,
     decode3 0xCB 0x94 0x12, decode3 0xCB 0x95 0x12, decode3 0xCB 0x96 0x12, decode3 0xCB 0x97 0x12,
     decode3 0xCB 0x98 0x12, decode3 0xCB 0x99 0x12, decode3 0xCB 0x9A 0x12, decode3 0xCB 0x9B 0x12,
     decode3 0xCB 0x9C 0x12, decode3 0xCB 0x9D 0x12, decode3 0xCB 0x9E 0x12, decode3 0xCB 0x9F 0x12] =
    [.res_2_B, .res_2_C, .res_2_D, .res_2_E, .res_2_H, .res_2_L, .res_2_mHL, .res_2_A, .res_3_B, .res_3_C,
     .res_3_D, .res_3_E, .res_3_H, .res_3_L, .res_3_mHL, .res_3_A] := by decide

theorem test_decode_extended_Ax :
    [decode3 0xCB 0xA0 0x12, decode3 0xCB 0xA1 0x12, decode3 0xCB 0xA2 0x12, decode3 0xCB 0xA3 0x12,
     decode3 0xCB 0xA4 0x12, decode3 0xCB 0xA5 0x12, decode3 0xCB 0xA6 0x12, decode3 0xCB 0xA7 0x12,
     decode3 0xCB 0xA8 0x12, decode3 0xCB 0xA9 0x12, decode3 0xCB 0xAA 0x12, decode3 0xCB 0xAB 0x12,
     decode3 0xCB 0xAC 0x12, decode3 0xCB 0xAD 0x12, decode3 0xCB 0xAE 0x12, decode3 0xCB 0xAF 0x12] =
    [.res_4_B, .res_4_C, .res_4_D, .res_4_E, .res_4_H, .res_4_L, .res_4_mHL, .res_4_A, .res_5_B, .res_5_C,
     .res_5_D, .res_5_E, .res_5_H, .res_5_L, .res_5_mHL, .res_5_A] := by decide

theorem test_decode_extended_Bx :
    [decode3 0xCB 0xB0 0x12, decode3 0xCB 0xB1 0x12, decode3 0xCB 0xB2 0x12, decode3 0xCB 0xB3 0x12,
     decode3 0xCB 0xB4 0x12, decode3 0xCB 0xB5 0x12, decode3 0xCB 0xB6 0x12, decode3 0xCB 0xB7 0x12,
     decode3 0xCB 0xB8 0x12, decode3 0xCB 0xB9 0x12, decode3 0xCB 0xBA 0x12, decode3 0xCB 0xBB 0x12,
     decode3 0xCB 0xBC 0x12, decode3 0xCB 0xBD 0x12, decode3 0xCB 0xBE 0x12, decode3 0xCB 0xBF 0x12] =
    [.res_6_B, .res_6_C, .res_6_D, .res_6_E, .res_6_H, .res_6_L, .res_6_mHL, .res_6_A, .res_7_B, .res_7_C,
     .res_7_D, .res_7_E, .res_7_H, .res_7_L, .res_7_mHL, .res_7_A] := by decide

theorem test_decode_extended_Cx :
    [decode3 0xCB 0xC0 0x12, decode3 0xCB 0xC1 0x12, decode3 0xCB 0xC2 0x12, decode3 0xCB 0xC3 0x12,
     decode3 0xCB 0xC4 0x12, decode3 0xCB 0xC5 0x12, decode3 0xCB 0xC6 0x12, decode3 0xCB 0xC7 0x12,
     decode3 0xCB 0xC8 0x12, decode3 0xCB 0xC9 0x12, decode3 0xCB 0xCA 0x12, decode3 0xCB 0xCB 0x12,
     decode3 0xCB 0xCC 0x12, decode3 0xCB 0xCD 0x12, decode3 0xCB 0xCE 0x12, decode3 0xCB 0xCF 0x12] =
    [.set_0_B, .set_0_C, .set_0_D, .set_0_E, .set_0_H, .set_0_L, .set_0_mHL, .set_0_A, .set_1_B, .set_1_C,
     .set_1_D, .set_1_E, .set_1_H, .set_1_L, .set_1_mHL, .set_1_A] := by decide

theorem test_decode_extended_Dx :
    [decode3 0xCB 0xD0 0x12, decode3 0xCB 0xD1 0x12, decode3 0xCB 0xD2 0x12, decode3 0xCB 0xD3 0x12,
     decode3 0xCB 0xD4 0x12, decode3 0xCB 0xD5 0x12, decode3 0xCB 0xD6 0x12, decode3 0xCB 0xD7 0x12,
     decode3 0xCB 0xD8 0x12, decode3 0xCB 0xD9 0x12, decode3 0xCB 0xDA 0x12, decode3 0xCB 0xDB 0x12,
     decode3 0xCB 0xDC 0x12, decode3 0xCB 0xDD 0x12, decode3 0xCB 0xDE 0x12, decode3 0xCB 0xDF 0x12] =
    [.set_2_B, .set_2_C, .set_2_D, .set_2_E, .set_2_H, .set_2_L, .set_2_mHL, .set_2_A, .set_3_B, .set_3_C,
     .set_3_D, .set_3_E, .set_3_H, .set_3_L, .set_3_mHL, .set_3_A] := by decide

theorem test_decode_extended_Ex :
    [decode3 0xCB 0xE0 0x12, decode3 0xCB 0xE1 0x12, decode3 0xCB 0xE2 0x12, decode3 0xCB 0xE3 0x12,
     decode3 0xCB 0xE4 0x12, decode3 0xCB 0xE5 0x12, decode3 0xCB 0xE6 0x12, decode3 0xCB 0xE7 0x12,
     decode3 0xCB 0xE8 0x12, decode3 0xCB 0xE9 0x12, decode3 0xCB 0xEA 0x12, decode3 0xCB 0xEB 0x12,
     decode3 0xCB 0xEC 0x12, decode3 0xCB 0xED 0x12, decode3 0xCB 0xEE 0x12, decode3 0xCB 0xEF 0x12] =
    [.set_4_B, .set_4_C, .set_4_D, .set_4_E, .set_4_H, .set_4_L, .set_4_mHL, .set_4_A, .set_5_B, .set_5_C,
     .set_5_D, .set_5_E, .set_5_H, .set_5_L, .set_5_mHL, .set_5_A] := by decide

theorem test_decode_extended_Fx :
    [decode3 0xCB 0xF0 0x12, decode3 0xCB 0xF1 0x12, decode3 0xCB 0xF2 0x12, decode3 0xCB 0xF3 0x12,
     decode3 0xCB 0xF4 0x12, decode3 0xCB 0xF5 0x12, decode3 0xCB 0xF6 0x12, decode3 0xCB 0xF7 0x12,
     decode3 0xCB 0xF8 0x12, decode3 0xCB 0xF9 0x12, decode3 0xCB 0xFA 0x12, decode3 0xCB 0xFB 0x12,
     decode3 0xCB 0xFC 0x12, decode3 0xCB 0xFD 0x12, decode3 0xCB 0xFE 0x12, decode3 0xCB 0xFF 0x12] =
    [.set_6_B, .set_6_C, .set_6_D, .set_6_E, .set_6_H, .set_6_L, .set_6_mHL, .set_6_A, .set_7_B, .set_7_C,
     .set_7_D, .set_7_E, .set_7_H, .set_7_L, .set_7_mHL, .set_7_A] := by decide

theorem test_lengths : (List.range 256).map (fun op => (opLength (BitVec.ofNat 8 op)).toNat) =
   [1, 3, 1, 1, 1, 1, 2, 1, 3, 1, 1, 1, 1, 1, 2, 1] ++
   [2, 3, 1, 1, 1, 1, 2, 1, 2, 1, 1, 1, 1, 1, 2, 1] ++
   [2, 3, 1, 1, 1, 1, 2, 1, 2, 1, 1, 1, 1, 1, 2, 1] ++
   [2, 3, 1, 1, 1, 1, 2, 1, 2, 1, 1, 1, 1, 1, 2, 1] ++
   [1, 1, 1, 1, 1, 1, 1, 1, 1, 1, 1, 1, 1, 1, 1, 1] ++
   [1, 1, 1, 1, 1, 1, 1, 1, 1, 1, 1, 1, 1, 1, 1, 1] ++
   [1, 1, 1, 1, 1, 1, 1, 1, 1, 1, 1, 1, 1, 1, 1, 1] ++
   [1, 1, 1, 1, 1, 1, 1, 1, 1, 1, 1, 1, 1, 1, 1, 1] ++
   [1, 1, 1, 1, 1, 1, 1, 1, 1, 1, 1, 1, 1, 1, 1, 1] ++
   [1, 1, 1, 1, 1, 1, 1, 1, 1, 1, 1, 1, 1, 1, 1, 1] ++
   [1, 1, 1, 1, 1, 1, 1, 1, 1, 1, 1, 1, 1, 1, 1, 1] ++
   [1, 1, 1, 1, 1, 1, 1, 1, 1, 1, 1, 1, 1, 1, 1, 1] ++
   [1, 1, 3, 3, 3, 1, 2, 1, 1, 1, 3, 2, 3, 3, 2, 1] ++
   [1, 1, 3, 1, 3, 1, 2, 1, 1, 1, 3, 1, 3, 1, 2, 1] ++
   [2, 1, 1, 1, 1, 1, 2, 1, 2, 1, 3, 1, 1, 1, 2, 1] ++
   [2, 1, 1, 1, 1, 1, 2, 1, 2, 1, 3, 1, 1, 1, 2, 1] := by decide +kernel

theorem test_costs_base : defaultCostBase =
   [4, 12, 8, 8, 4, 4, 8, 4, 20, 8, 8, 8, 4, 4, 8, 4] ++
   [4, 12, 8, 8, 4, 4, 8, 4, 12, 8, 8, 8, 4, 4, 8, 4] ++
   [8, 12, 8, 8, 4, 4, 8, 4, 8, 8, 8, 8, 4, 4, 8, 4] ++
   [8, 12, 8, 8, 12, 12, 12, 4, 8, 8, 8, 8, 4, 4, 8, 4] ++
   [4, 4, 4, 4, 4, 4, 8, 4, 4, 4, 4, 4, 4, 4, 8, 4] ++
   [4, 4, 4, 4, 4, 4, 8, 4, 4, 4, 4, 4, 4, 4, 8, 4] ++
   [4, 4, 4, 4, 4, 4, 8, 4, 4, 4, 4, 4, 4, 4, 8, 4] ++
   [8, 8, 8, 8, 8, 8, 4, 8, 4, 4, 4, 4, 4, 4, 8, 4] ++
   [4, 4, 4, 4, 4, 4, 8, 4, 4, 4, 4, 4, 4, 4, 8, 4] ++
   [4, 4, 4, 4, 4, 4, 8, 4, 4, 4, 4, 4, 4, 4, 8, 4] ++
   [4, 4, 4, 4, 4, 4, 8, 4, 4, 4, 4, 4, 4, 4, 8, 4] ++
   [4, 4, 4, 4, 4, 4, 8, 4, 4, 4, 4, 4, 4, 4, 8, 4] ++
   [8, 12, 12, 16, 12, 16, 8, 16, 8, 16, 12, 4, 12, 24, 8, 16] ++
   [8, 12, 12, 0, 12, 16, 8, 16, 8, 16, 12, 0, 12, 0, 8, 16] ++
   [12, 12, 8, 0, 0, 16, 8, 16, 16, 4, 16, 0, 0, 0, 8, 16] ++
   [12, 12, 8, 4, 0, 16, 8, 16, 12, 8, 16, 4, 0, 0, 8, 16] := by decide +kernel

theorem test_costs_extended : defaultCostCB.map (4 + ·) =
   [8, 8, 8, 8, 8, 8, 16, 8, 8, 8, 8, 8, 8, 8, 16, 8] ++
   [8, 8, 8, 8, 8, 8, 16, 8, 8, 8, 8, 8, 8, 8, 16, 8] ++
   [8, 8, 8, 8, 8, 8, 16, 8, 8, 8, 8, 8, 8, 8, 16, 8] ++
   [8, 8, 8, 8, 8, 8, 16, 8, 8, 8, 8, 8, 8, 8, 16, 8] ++
   [8, 8, 8, 8, 8, 8, 12, 8, 8, 8, 8, 8, 8, 8, 12, 8] ++
   [8, 8, 8, 8, 8, 8, 12, 8, 8, 8, 8, 8, 8, 8, 12, 8] ++
   [8, 8, 8, 8, 8, 8, 12, 8, 8, 8, 8, 8, 8, 8, 12, 8] ++
   [8, 8, 8, 8, 8, 8, 12, 8, 8, 8, 8, 8, 8, 8, 12, 8] ++
   [8, 8, 8, 8, 8, 8, 16, 8, 8, 8, 8, 8, 8, 8, 16, 8] ++
   [8, 8, 8, 8, 8, 8, 16, 8, 8, 8, 8, 8, 8, 8, 16, 8] ++
   [8, 8, 8, 8, 8, 8, 16, 8, 8, 8, 8, 8, 8, 8, 16, 8] ++
   [8, 8, 8, 8, 8, 8, 16, 8, 8, 8, 8, 8, 8, 8, 16, 8] ++
   [8, 8, 8, 8, 8, 8, 16, 8, 8, 8, 8, 8, 8, 8, 16, 8] ++
   [8, 8, 8, 8, 8, 8, 16, 8, 8, 8, 8, 8, 8, 8, 16, 8] ++
   [8, 8, 8, 8, 8, 8, 16, 8, 8, 8, 8, 8, 8, 8, 16, 8] ++
   [8, 8, 8, 8, 8, 8, 16, 8, 8, 8, 8, 8, 8, 8, 16, 8] := by decide +kernel

/-! ## One core step each (95_test_vectors.md) -/

/-- The bytes at 0x0100, a setup of the reset state, one step, and a check of its result. -/
def runs (bytes : List Byte) (setup : State → State) (check : State → Bool) : Bool :=
  let placed := bytes.zipIdx.foldl (fun s p => s.place (BitVec.ofNat 16 (0x0100 + p.2)) p.1) State.reset
  match nextOf (step (setup placed)) with
  | some t => check t
  | none => false

/-- V41-1 (R140): LD B,C. -/
theorem test_V41_1 : runs [0x41]
    (fun s => ({ s with regs.b := 0x11, regs.c := 0x22 } : State))
    (fun t => t.regs.b == 0x22 && t.regs.c == 0x22 && t.regs.pc == 0x0101 && t.disp.ticks == 4) = true := by decide

/-- V41-3 (R142): LD H,(HL): address is the old HL. -/
theorem test_V41_3 : runs [0x66]
    (fun s => ((s.setHL 0xC000).writeByte 0xC000 0x99))
    (fun t => t.regs.h == 0x99 && t.regs.l == 0x00 && t.getHL == 0x9900 && t.disp.ticks == 8) = true := by decide

/-- V41-4 (R144): LD (HL),n8. -/
theorem test_V41_4 : runs [0x36, 0x77]
    (fun s => (s.setHL 0xC123))
    (fun t => t.readByte .data 0xC123 == 0x77 && t.regs.pc == 0x0102 && t.disp.ticks == 12) = true := by decide

/-- V41-5 (R155): LD (HL+),A at 0xFFFF: IE masked to 5 bits, HL wraps. -/
theorem test_V41_5 : runs [0x22]
    (fun s => (({ s with regs.a := 0xFF } : State).setHL 0xFFFF))
    (fun t => t.irq.ie == 31 && t.getHL == 0x0000 && t.disp.ticks == 8) = true := by decide

/-- V41-6 (R158): LD A,(HL-). -/
theorem test_V41_6 : runs [0x3A]
    (fun s => ((s.setHL 0xC000).writeByte 0xC000 0x42))
    (fun t => t.regs.a == 0x42 && t.getHL == 0xBFFF && t.disp.ticks == 8) = true := by decide

/-- V41-7 (R152): LDH (a8),A to HRAM. -/
theorem test_V41_7 : runs [0xE0, 0x80]
    (fun s => ({ s with regs.a := 0x3C } : State))
    (fun t => t.readByte .data 0xFF80 == 0x3C && t.regs.pc == 0x0102 && t.disp.ticks == 12) = true := by decide

/-- V41-8 (R154): LD (C),A to IF. -/
theorem test_V41_8 : runs [0xE2]
    (fun s => ({ s with regs.a := 0x1F, regs.c := 0x0F } : State))
    (fun t => t.irq.ifr == 31 && t.disp.ticks == 8) = true := by decide

/-- V41-9 (R149): LD A,(a16) through echo RAM 0xE200. -/
theorem test_V41_9 : runs [0xFA, 0x00, 0xE2]
    (fun s => (s.writeByte 0xC200 0xAB))
    (fun t => t.regs.a == 0xAB && t.regs.pc == 0x0103 && t.disp.ticks == 16) = true := by decide

/-- V41-10 (R150): LD (a16),A to ROM: no effect. -/
theorem test_V41_10 : runs [0xEA, 0x00, 0x20]
    (fun s => ({ s with regs.a := 0x55 } : State))
    (fun t => t.readByte .data 0x2000 == 0x00 && t.disp.ticks == 16) = true := by decide

/-- V41-12 (R152): write to 0xFF46: OAM DMA from 0xC100, instant. -/
theorem test_V41_12 : runs [0xE0, 0x46]
    (fun s => ((({ s with regs.a := 0xC1 } : State).writeByte 0xC100 0x11).writeByte 0xC19F 0x99))
    (fun t => t.bus.dma == 0xC1 && t.oam 159 == 0x99 && t.disp.ticks == 12) = true := by decide +kernel

/-- V42-1 (R160): LD SP,n16. -/
theorem test_V42_1 : runs [0x31, 0xFE, 0xCF]
    (fun s => s)
    (fun t => t.regs.sp == 0xCFFE && t.regs.pc == 0x0103 && t.disp.ticks == 12) = true := by decide

/-- V42-2 (R161): LD (a16),SP. -/
theorem test_V42_2 : runs [0x08, 0x00, 0xC0]
    (fun s => ({ s with regs.sp := 0xFFF8 } : State))
    (fun t => t.readByte .data 0xC000 == 0xF8 && t.readByte .data 0xC001 == 0xFF && t.disp.ticks == 20) = true := by decide

/-- V42-3 (R162): LD SP,HL. -/
theorem test_V42_3 : runs [0xF9]
    (fun s => (s.setHL 0xD000))
    (fun t => t.regs.sp == 0xD000 && t.disp.ticks == 8) = true := by decide

/-- V42-4 (R163): PUSH BC: low byte at new SP. -/
theorem test_V42_4 : runs [0xC5]
    (fun s => (({ s with regs.sp := 0xD000 } : State).setBC 0x1234))
    (fun t => t.regs.sp == 0xCFFE && t.readByte .data 0xCFFE == 0x34 && t.readByte .data 0xCFFF == 0x12 && t.disp.ticks == 16) = true := by decide

/-- V42-5 (R163): PUSH DE at SP=0x0001: wraps to 0xFFFF; 0xFFFF is IE (0xCD & 0x1F), 0x0000 is ROM (no effect). -/
theorem test_V42_5 : runs [0xD5]
    (fun s => (({ s with regs.sp := 0x0001 } : State).setDE 0xABCD))
    (fun t => t.regs.sp == 0xFFFF && t.readByte .data 0xFFFF == 0x0D && t.readByte .data 0x0000 == 0x00 && t.disp.ticks == 16) = true := by decide

/-- V42-6 (R165): POP AF masks the low nibble. -/
theorem test_V42_6 : runs [0xF1]
    (fun s => ((({ s with regs.sp := 0xC000 } : State).writeByte 0xC000 0xFF).writeByte 0xC001 0x12))
    (fun t => t.regs.a == 0x12 && t.regs.f == 0xF0 && t.regs.sp == 0xC002 && t.disp.ticks == 12) = true := by decide

/-- V42-7 (R164): POP HL. -/
theorem test_V42_7 : runs [0xE1]
    (fun s => ((({ s with regs.sp := 0xC000 } : State).writeByte 0xC000 0x34).writeByte 0xC001 0x12))
    (fun t => t.getHL == 0x1234 && t.regs.sp == 0xC002 && t.disp.ticks == 12) = true := by decide

/-- V43-1 (R177): ADD A,B, the source example (C3). -/
theorem test_V43_1 : runs [0x80]
    (fun s => ({ s with regs.a := 0xFF, regs.b := 0x01, regs.f := 0x00 } : State))
    (fun t => t.regs.a == 0x00 && t.getF == 0b10110000 && t.disp.ticks == 4) = true := by decide

/-- V43-3 (R180): ADC A,C: carry-in makes the half-carry. -/
theorem test_V43_3 : runs [0x89]
    (fun s => ({ s with regs.a := 0x0F, regs.c := 0x00, regs.f := 0x10 } : State))
    (fun t => t.regs.a == 0x10 && t.getF == 0b00100000) = true := by decide

/-- V43-4 (R182): ADC A,n8 0xFF+0+1. -/
theorem test_V43_4 : runs [0xCE, 0x00]
    (fun s => ({ s with regs.a := 0xFF, regs.f := 0x10 } : State))
    (fun t => t.regs.a == 0x00 && t.getF == 0b10110000 && t.disp.ticks == 8) = true := by decide

/-- V43-5 (R183): SUB B equal: Z=1 N=1. -/
theorem test_V43_5 : runs [0x90]
    (fun s => ({ s with regs.a := 0x3E, regs.b := 0x3E, regs.f := 0x00 } : State))
    (fun t => t.regs.a == 0x00 && t.getF == 0b11000000) = true := by decide

/-- V43-6 (R185): SUB n8 0x00-0x01: borrow from bits 3 and 7. -/
theorem test_V43_6 : runs [0xD6, 0x01]
    (fun s => ({ s with regs.a := 0x00, regs.f := 0x00 } : State))
    (fun t => t.regs.a == 0xFF && t.getF == 0b01110000 && t.disp.ticks == 8) = true := by decide

/-- V43-8 (R186): SBC A,B 0-0-1. -/
theorem test_V43_8 : runs [0x98]
    (fun s => ({ s with regs.a := 0x00, regs.b := 0x00, regs.f := 0x10 } : State))
    (fun t => t.regs.a == 0xFF && t.getF == 0b01110000) = true := by decide

/-- V43-9 (R188): SBC A,n8 0x10-0x0F-1 = 0. -/
theorem test_V43_9 : runs [0xDE, 0x0F]
    (fun s => ({ s with regs.a := 0x10, regs.f := 0x10 } : State))
    (fun t => t.regs.a == 0x00 && t.getF == 0b11100000) = true := by decide

/-- V43-10 (R189): AND B: Z=1, H=1. -/
theorem test_V43_10 : runs [0xA0]
    (fun s => ({ s with regs.a := 0xF0, regs.b := 0x0F, regs.f := 0x00 } : State))
    (fun t => t.regs.a == 0x00 && t.getF == 0b10100000) = true := by decide

/-- V43-11 (R192): XOR A clears A, Z=1 only. -/
theorem test_V43_11 : runs [0xAF]
    (fun s => ({ s with regs.a := 0x5A, regs.f := 0xF0 } : State))
    (fun t => t.regs.a == 0x00 && t.getF == 0b10000000 && t.disp.ticks == 4) = true := by decide

/-- V43-12 (R196): OR (HL). -/
theorem test_V43_12 : runs [0xB6]
    (fun s => ((({ s with regs.a := 0x00, regs.f := 0xF0 } : State).setHL 0xC000).writeByte 0xC000 0x80))
    (fun t => t.regs.a == 0x80 && t.getF == 0b00000000 && t.disp.ticks == 8) = true := by decide

/-- V43-13 (R200): CP n8: A unchanged, borrow. -/
theorem test_V43_13 : runs [0xFE, 0x40]
    (fun s => ({ s with regs.a := 0x3C, regs.f := 0x00 } : State))
    (fun t => t.regs.a == 0x3C && t.getF == 0b01010000 && t.disp.ticks == 8) = true := by decide

/-- V43-15 (R201): INC B, the source example (C4); C unchanged. -/
theorem test_V43_15 : runs [0x04]
    (fun s => ({ s with regs.b := 0xFF, regs.f := 0x10 } : State))
    (fun t => t.regs.b == 0x00 && t.getF == 0b10110000 && t.disp.ticks == 4) = true := by decide

/-- V43-18 (R203): DEC B from 0: H=1, C unchanged. -/
theorem test_V43_18 : runs [0x05]
    (fun s => ({ s with regs.b := 0x00, regs.f := 0x10 } : State))
    (fun t => t.regs.b == 0xFF && t.getF == 0b01110000) = true := by decide

/-- V43-19 (R202): INC (HL). -/
theorem test_V43_19 : runs [0x34]
    (fun s => ((({ s with regs.f := 0x00 } : State).setHL 0xC000).writeByte 0xC000 0x7F))
    (fun t => t.readByte .data 0xC000 == 0x80 && t.getF == 0b00100000 && t.disp.ticks == 12) = true := by decide

/-- V43-20 (R204): DEC (HL). -/
theorem test_V43_20 : runs [0x35]
    (fun s => ((({ s with regs.f := 0x00 } : State).setHL 0xC000).writeByte 0xC000 0x00))
    (fun t => t.readByte .data 0xC000 == 0xFF && t.getF == 0b01100000 && t.disp.ticks == 12) = true := by decide

/-- V43-22 (R205): DAA 0x9A: result 0, carry set. -/
theorem test_V43_22 : runs [0x27]
    (fun s => ({ s with regs.a := 0x9A, regs.f := 0x00 } : State))
    (fun t => t.regs.a == 0x00 && t.getF == 0b10010000) = true := by decide

/-- V43-23 (R205): DAA after subtraction with H. -/
theorem test_V43_23 : runs [0x27]
    (fun s => ({ s with regs.a := 0x4B, regs.f := 0x60 } : State))
    (fun t => t.regs.a == 0x45 && t.getF == 0b01000000) = true := by decide

/-- V43-25 (R206): CPL. -/
theorem test_V43_25 : runs [0x2F]
    (fun s => ({ s with regs.a := 0x35, regs.f := 0x00 } : State))
    (fun t => t.regs.a == 0xCA && t.getF == 0b01100000) = true := by decide

/-- V43-26 (R207): SCF. -/
theorem test_V43_26 : runs [0x37]
    (fun s => ({ s with regs.f := 0xE0 } : State))
    (fun t => t.getF == 0b10010000) = true := by decide

/-- V43-27 (R208): CCF. -/
theorem test_V43_27 : runs [0x3F]
    (fun s => ({ s with regs.f := 0x90 } : State))
    (fun t => t.getF == 0b10000000) = true := by decide

/-- V44-1 (R222): ADD HL,BC: carry out of bit 11; Z unchanged. -/
theorem test_V44_1 : runs [0x09]
    (fun s => ((({ s with regs.f := 0x80 } : State).setHL 0x0FFF).setBC 0x0001))
    (fun t => t.getHL == 0x1000 && t.getF == 0b10100000 && t.disp.ticks == 8) = true := by decide

/-- V44-2 (R222): ADD HL,DE wrap: H=1 C=1, Z stays 0. -/
theorem test_V44_2 : runs [0x19]
    (fun s => ((({ s with regs.f := 0x00 } : State).setHL 0xFFFF).setDE 0x0001))
    (fun t => t.getHL == 0x0000 && t.getF == 0b00110000) = true := by decide

/-- V44-4 (R223): INC SP wraps, flags unchanged. -/
theorem test_V44_4 : runs [0x33]
    (fun s => ({ s with regs.sp := 0xFFFF, regs.f := 0xF0 } : State))
    (fun t => t.regs.sp == 0x0000 && t.getF == 0b11110000 && t.disp.ticks == 8) = true := by decide

/-- V44-5 (R224): DEC BC wraps. -/
theorem test_V44_5 : runs [0x0B]
    (fun s => (s.setBC 0x0000))
    (fun t => t.getBC == 0xFFFF && t.disp.ticks == 8) = true := by decide

/-- V44-7 (R225): ADD SP,-1 (C5): signed sum, unsigned low-byte flags. -/
theorem test_V44_7 : runs [0xE8, 0xFF]
    (fun s => ({ s with regs.sp := 0x0000, regs.f := 0x00 } : State))
    (fun t => t.regs.sp == 0xFFFF && t.getF == 0b00000000) = true := by decide

/-- V44-9 (R226): LD HL,SP+2. -/
theorem test_V44_9 : runs [0xF8, 0x02]
    (fun s => ({ s with regs.sp := 0xFFF8, regs.f := 0x00 } : State))
    (fun t => t.getHL == 0xFFFA && t.regs.sp == 0xFFF8 && t.getF == 0b00000000 && t.disp.ticks == 12) = true := by decide

/-- V44-10 (R226): LD HL,SP-2. -/
theorem test_V44_10 : runs [0xF8, 0xFE]
    (fun s => ({ s with regs.sp := 0x0005, regs.f := 0x00 } : State))
    (fun t => t.getHL == 0x0003 && t.getF == 0b00110000) = true := by decide

/-- V45-2 (R238): RLCA on 0 clears Z. -/
theorem test_V45_2 : runs [0x07]
    (fun s => ({ s with regs.a := 0x00, regs.f := 0x80 } : State))
    (fun t => t.regs.a == 0x00 && t.getF == 0b00000000) = true := by decide

/-- V45-3 (R239): RRCA. -/
theorem test_V45_3 : runs [0x0F]
    (fun s => ({ s with regs.a := 0x01, regs.f := 0x00 } : State))
    (fun t => t.regs.a == 0x80 && t.getF == 0b00010000) = true := by decide

/-- V45-4 (R240): RLA: result 0, Z stays 0. -/
theorem test_V45_4 : runs [0x17]
    (fun s => ({ s with regs.a := 0x80, regs.f := 0x00 } : State))
    (fun t => t.regs.a == 0x00 && t.getF == 0b00010000) = true := by decide

/-- V45-5 (R241): RRA with carry in. -/
theorem test_V45_5 : runs [0x1F]
    (fun s => ({ s with regs.a := 0x01, regs.f := 0x10 } : State))
    (fun t => t.regs.a == 0x80 && t.getF == 0b00010000) = true := by decide

/-- V46-1 (R250): RLC B on 0: Z=1. -/
theorem test_V46_1 : runs [0xCB, 0x00]
    (fun s => ({ s with regs.b := 0x00, regs.f := 0x00 } : State))
    (fun t => t.regs.b == 0x00 && t.getF == 0b10000000 && t.disp.ticks == 8) = true := by decide

/-- V46-2 (R254): RL C: result 0, Z=1, C=1. -/
theorem test_V46_2 : runs [0xCB, 0x11]
    (fun s => ({ s with regs.c := 0x80, regs.f := 0x00 } : State))
    (fun t => t.regs.c == 0x00 && t.getF == 0b10010000 && t.disp.ticks == 8) = true := by decide

/-- V46-3 (R256): RR D with carry. -/
theorem test_V46_3 : runs [0xCB, 0x1A]
    (fun s => ({ s with regs.d := 0x01, regs.f := 0x10 } : State))
    (fun t => t.regs.d == 0x80 && t.getF == 0b00010000) = true := by decide

/-- V46-5 (R260): SRA H keeps bit 7. -/
theorem test_V46_5 : runs [0xCB, 0x2C]
    (fun s => ({ s with regs.h := 0x81, regs.f := 0x00 } : State))
    (fun t => t.regs.h == 0xC0 && t.getF == 0b00010000) = true := by decide

/-- V46-6 (R262): SWAP A on 0: Z=1, C cleared. -/
theorem test_V46_6 : runs [0xCB, 0x37]
    (fun s => ({ s with regs.a := 0x00, regs.f := 0x10 } : State))
    (fun t => t.regs.a == 0x00 && t.getF == 0b10000000) = true := by decide

/-- V46-7 (R264): SRL L to 0. -/
theorem test_V46_7 : runs [0xCB, 0x3D]
    (fun s => ({ s with regs.l := 0x01, regs.f := 0x00 } : State))
    (fun t => t.regs.l == 0x00 && t.getF == 0b10010000) = true := by decide

/-- V46-8 (R251): RLC (HL): 16 ticks. -/
theorem test_V46_8 : runs [0xCB, 0x06]
    (fun s => ((({ s with regs.f := 0x00 } : State).setHL 0xC000).writeByte 0xC000 0x85))
    (fun t => t.readByte .data 0xC000 == 0x0B && t.getF == 0b00010000 && t.disp.ticks == 16) = true := by decide

/-- V46-9 (R266): BIT 7,H set: Z=0, C unchanged. -/
theorem test_V46_9 : runs [0xCB, 0x7C]
    (fun s => ({ s with regs.h := 0x80, regs.f := 0x10 } : State))
    (fun t => t.getF == 0b00110000 && t.disp.ticks == 8) = true := by decide

/-- V46-10 (R267): BIT 0,(HL): 12 ticks. -/
theorem test_V46_10 : runs [0xCB, 0x46]
    (fun s => ((({ s with regs.f := 0x00 } : State).setHL 0xC000).writeByte 0xC000 0xFE))
    (fun t => t.getF == 0b10100000 && t.disp.ticks == 12) = true := by decide

/-- V46-11 (R269): RES 7,(HL): flags unchanged. -/
theorem test_V46_11 : runs [0xCB, 0xBE]
    (fun s => ((({ s with regs.f := 0xF0 } : State).setHL 0xC000).writeByte 0xC000 0xFF))
    (fun t => t.readByte .data 0xC000 == 0x7F && t.getF == 0b11110000 && t.disp.ticks == 16) = true := by decide

/-- V46-12 (R271): SET 7,(HL) on VRAM tile byte (cache row 0 of tile 0 updated). -/
theorem test_V46_12 : runs [0xCB, 0xFE]
    (fun s => (({ s with regs.f := 0x00 } : State).setHL 0x8000))
    (fun t => t.readByte .data 0x8000 == 0x80 && t.disp.ticks == 16) = true := by decide

/-- V47-1 (R281): JP a16. -/
theorem test_V47_1 : runs [0xC3, 0x00, 0x02]
    (fun s => s)
    (fun t => t.regs.pc == 0x0200 && t.disp.ticks == 16) = true := by decide

/-- V47-2 (R282): JP Z taken: 16. -/
theorem test_V47_2 : runs [0xCA, 0x00, 0x02]
    (fun s => ({ s with regs.f := 0x80 } : State))
    (fun t => t.regs.pc == 0x0200 && t.disp.ticks == 16) = true := by decide

/-- V47-3 (R282): JP Z not taken: 12. -/
theorem test_V47_3 : runs [0xCA, 0x00, 0x02]
    (fun s => ({ s with regs.f := 0x00 } : State))
    (fun t => t.regs.pc == 0x0103 && t.disp.ticks == 12) = true := by decide

/-- V47-4 (R283): JP HL. -/
theorem test_V47_4 : runs [0xE9]
    (fun s => (s.setHL 0xC000))
    (fun t => t.regs.pc == 0xC000 && t.disp.ticks == 4) = true := by decide

/-- V47-6 (R284): JR +127 from 0x0102. -/
theorem test_V47_6 : runs [0x18, 0x7F]
    (fun s => s)
    (fun t => t.regs.pc == 0x0181 && t.disp.ticks == 12) = true := by decide

/-- V47-7 (R285): JR NZ,-128 taken: 12. -/
theorem test_V47_7 : runs [0x20, 0x80]
    (fun s => ({ s with regs.f := 0x00 } : State))
    (fun t => t.regs.pc == 0x0082 && t.disp.ticks == 12) = true := by decide

/-- V47-8 (R285): JR NC not taken: 8. -/
theorem test_V47_8 : runs [0x30, 0x05]
    (fun s => ({ s with regs.f := 0x10 } : State))
    (fun t => t.regs.pc == 0x0102 && t.disp.ticks == 8) = true := by decide

/-- V47-9 (R286): CALL pushes 0x0103. -/
theorem test_V47_9 : runs [0xCD, 0x00, 0x03]
    (fun s => ({ s with regs.sp := 0xD000 } : State))
    (fun t => t.regs.pc == 0x0300 && t.regs.sp == 0xCFFE && t.readByte .data 0xCFFE == 0x03 && t.readByte .data 0xCFFF == 0x01 && t.disp.ticks == 24) = true := by decide

/-- V47-11 (R287): CALL C taken: 24. -/
theorem test_V47_11 : runs [0xDC, 0x00, 0x03]
    (fun s => ({ s with regs.sp := 0xD000, regs.f := 0x10 } : State))
    (fun t => t.regs.pc == 0x0300 && t.regs.sp == 0xCFFE && t.disp.ticks == 24) = true := by decide

/-- V47-12 (R288): RET. -/
theorem test_V47_12 : runs [0xC9]
    (fun s => ((({ s with regs.sp := 0xCFFE } : State).writeByte 0xCFFE 0x34).writeByte 0xCFFF 0x12))
    (fun t => t.regs.pc == 0x1234 && t.regs.sp == 0xD000 && t.disp.ticks == 16) = true := by decide

/-- V47-13 (R289): RET Z taken: 20. -/
theorem test_V47_13 : runs [0xC8]
    (fun s => ((({ s with regs.sp := 0xCFFE, regs.f := 0x80 } : State).writeByte 0xCFFE 0x34).writeByte 0xCFFF 0x12))
    (fun t => t.regs.pc == 0x1234 && t.regs.sp == 0xD000 && t.disp.ticks == 20) = true := by decide

/-- V47-15 (R290): RETI. -/
theorem test_V47_15 : runs [0xD9]
    (fun s => ((({ s with regs.sp := 0xCFFE, irq.ime := false } : State).writeByte 0xCFFE 0x34).writeByte 0xCFFF 0x12))
    (fun t => t.regs.pc == 0x1234 && t.regs.sp == 0xD000 && t.irq.ime && t.disp.ticks == 16) = true := by decide

/-- V47-16 (R291): RST 38H pushes 0x0101. -/
theorem test_V47_16 : runs [0xFF]
    (fun s => ({ s with regs.sp := 0xD000 } : State))
    (fun t => t.regs.pc == 0x0038 && t.regs.sp == 0xCFFE && t.readByte .data 0xCFFE == 0x01 && t.readByte .data 0xCFFF == 0x01 && t.disp.ticks == 16) = true := by decide

/-- V48-1 (R300): NOP. -/
theorem test_V48_1 : runs [0x00]
    (fun s => s)
    (fun t => t.regs.pc == 0x0101 && t.disp.ticks == 4) = true := by decide

/-- V48-2 (R301): HALT with IME=0 acts as NOP. -/
theorem test_V48_2 : runs [0x76]
    (fun s => ({ s with irq.ime := false } : State))
    (fun t => t.regs.pc == 0x0101 && !t.disp.halted && t.disp.ticks == 4) = true := by decide

/-- V48-3 (R301): HALT with IME=1 halts. -/
theorem test_V48_3 : runs [0x76]
    (fun s => ({ s with irq.ime := true, irq.ie := 1 } : State))
    (fun t => t.regs.pc == 0x0101 && t.disp.halted && t.disp.ticks == 4) = true := by decide

/-- V48-5 (R302): STOP: 2 bytes. -/
theorem test_V48_5 : runs [0x10, 0x00]
    (fun s => s)
    (fun t => t.regs.pc == 0x0102 && t.disp.stopped && t.disp.ticks == 4) = true := by decide

/-- V48-7 (R303): DI. -/
theorem test_V48_7 : runs [0xF3]
    (fun s => ({ s with irq.ime := true } : State))
    (fun t => !t.irq.ime && t.disp.ticks == 4) = true := by decide

/-- V48-8 (R304): EI then dispatch in the same step. -/
theorem test_V48_8 : runs [0xFB]
    (fun s => ({ s with irq.ime := false, irq.ie := 1, irq.ifr := 1, regs.sp := 0xD000 } : State))
    (fun t => !t.irq.ime && t.irq.ifr == 0 && t.regs.pc == 0x0040 && t.regs.sp == 0xCFFE && t.readByte .data 0xCFFE == 0x01 && t.readByte .data 0xCFFF == 0x01 && t.disp.ticks == 16) = true := by decide

/-- V48-9 (R306): undefined opcode. -/
theorem test_V48_9 : runs [0xDD]
    (fun s => s)
    (fun t => t.regs.pc == 0x0100 && t.disp.ticks == 0 && t.disp.fault == some (.undefinedOpcode 0xDD 0x0100)) = true := by decide

/-- V48-11 (R305): CB prefix. -/
theorem test_V48_11 : runs [0xCB, 0x37]
    (fun s => ({ s with regs.a := 0xF0 } : State))
    (fun t => t.regs.a == 0x0F && t.disp.ticks == 8) = true := by decide


/-! ## Witnesses: a state and operands that meet the hypotheses of each statement -/

/-- A running state with `bytes` at PC = 0xC000. -/
def at_C000 (bytes : List Byte) : State :=
  bytes.zipIdx.foldl (fun s p => s.place (BitVec.ofNat 16 (0xC000 + p.2)) p.1)
    { State.reset with regs.pc := 0xC000, regs.sp := 0xD000 }

theorem test_witness_DecodeEncode : (Instr.ld_BC_n16 0xFFFF).wellFormed = true ∧ Instr.set_7_A.wellFormed = true := by
  decide
theorem test_witness_EncodeDecode : decode [0xCB, 0xFF, 0x00] = .ok (.set_7_A, [0x00]) := rfl
theorem test_witness_FetchWordPlaced :
    let at_ (pc : Word) : State := { State.reset with regs.pc := pc }
    State.reset.bus.mem.wf ∧ (8 : Nat) < 16 ∧
      ((at_ 0xFFFC).withFetchWord 8 0x76).regs.pc = 0xFFFC ∧ ((at_ 0xFFFD).withFetchWord 8 0x76).regs.pc = 0x0100 ∧
      storageKey 0xC003 ∉ [storageKey 0xE000, storageKey 0xE001, storageKey 0xE002] ∧
      storageKey 0xC002 ∈ [storageKey 0xE000, storageKey 0xE001, storageKey 0xE002] := by decide
theorem test_witness_StorageReadBack :
    State.reset.bus.mem.wf ∧ isRam 0x8000 = true ∧ isRam 0xFDFF = true ∧ isRam 0xFFFE = true ∧
      isRam 0x7FFF = false ∧ isRam 0xFF44 = false := by decide
theorem test_witness_EchoMirror :
    State.reset.bus.mem.wf ∧ 0xC000 ≤ (0xC000 : Word).toNat ∧ (0xDDFF : Word).toNat ≤ 0xDDFF := by decide
theorem test_witness_BusRegisters : (0x0000 : Word).toNat < 0x8000 ∧ (0x7FFF : Word).toNat < 0x8000 := by decide
theorem test_witness_BusWriteFrame :
    reached [0xC000] 0xC001 = false ∧ reached [0xFF46] 0xFEA0 = false ∧ reached [0xFF46] 0xFE9F = true ∧
      reached [0xC000] 0xE000 = true := by decide
theorem test_witness_OamDmaCopy :
    State.reset.bus.mem.wf ∧ 159 < 160 ∧ (0xFDFF : Word) ≠ 0xFF46 ∧
      ¬(0xFE00 ≤ (0xFDFF : Word).toNat ∧ (0xFDFF : Word).toNat < 0xFEA0) ∧
      ¬(0xFE00 ≤ (0xFEA0 : Word).toNat ∧ (0xFEA0 : Word).toNat < 0xFEA0) := by decide
theorem test_witness_JoypadRead :
    let b : Buttons := ⟨true, false, false, false, false, false, false, true⟩
    let s : State := { State.reset with host.buttons := some b }
    s.sampleButtons .data = b ∧ s.bus.joysel = 0b11 ∧
      (s.writeByte 0xFF00 0x20).bus.joysel = 0b10 ∧ (s.writeByte 0xFF00 0x20).readByte .data 0xFF00 = 0xEE ∧
      (s.writeByte 0xFF00 0x10).bus.joysel = 0b01 ∧ (s.writeByte 0xFF00 0x10).readByte .data 0xFF00 = 0xD7 ∧
      (s.writeByte 0xFF00 0x00).bus.joysel = 0b00 := by decide
theorem test_witness_WordsAndStack :
    State.reset.bus.mem.wf ∧ isRam 0xDFFF = true ∧ isRam (0xDFFF + 1) = true ∧
      isRam (State.reset.regs.sp - 2) = true ∧ isRam (State.reset.regs.sp - 1) = true := by decide
theorem test_witness_TileRowDecoded :
    State.reset.bus.mem.wf ∧ 0x8000 ≤ (0x8000 : Word).toNat ∧ (0x97FF : Word).toNat ≤ 0x97FF ∧
      ¬((383 : Nat) = 0 / 16 ∧ (7 : Nat) = 0 / 2 % 8) := by decide
theorem test_witness_StepRunsDecoded :
    let s := at_C000 [0x01, 0x34, 0x12]
    s.disp.fault = none ∧ s.disp.stopped = false ∧ s.disp.halted = false ∧
      decode [s.readByte .fetch s.regs.pc, s.readByte .fetch (s.regs.pc + 1), s.readByte .fetch (s.regs.pc + 2)]
        = .ok (.ld_BC_n16 0x1234, []) := ⟨rfl, rfl, rfl, rfl⟩
theorem test_witness_UndefinedOpcodes :
    let s := at_C000 [0xD3]
    (0xD3, Instr.undefined_D3) ∈ Instr.undefinedRows ∧ (0xFD, Instr.undefined_FD) ∈ Instr.undefinedRows ∧
      s.disp.fault = none ∧ s.disp.stopped = false ∧ s.disp.halted = false ∧ s.readByte .fetch s.regs.pc = 0xD3 ∧
      0xD3 ∈ undefinedOps ∧
      ({ s with disp.fault := some (.undefinedOpcode 0xD3 0xC000) } : State).disp.fault =
        some (.undefinedOpcode 0xD3 0xC000) := by decide
theorem test_witness_Waits :
    let idle := State.reset
    let ready : State := { State.reset with irq := { ime := true, ie := 1, ifr := 1 } }
    idle.disp.fault = none ∧ idle.pending = false ∧ ready.pending = true ∧
      ({ ready with disp.stopped := true } : State).pending = true ∧
      ({ idle with disp.halted := true } : State).disp.stopped = false := by decide
theorem test_witness_Quiescence :
    let s : State := { State.reset with disp.stopped := true }
    positiveCosts s.params = true ∧ s.ppu.seen = s.disp.ticks ∧ s.quiescent = true ∧
      State.reset.quiescent = false := by decide +kernel
theorem test_witness_ModeTransitions :
    (0 : Byte) + 1 ≠ 144 ∧ (143 : Byte) + 1 = 144 ∧ (152 : Byte).toNat < 153 ∧ 153 ≤ (153 : Byte).toNat ∧
      State.reset.ppu.mode = .oamSearch ∧ ({ State.reset with ppu.mode := .hBlank } : State).ppu.mode = .hBlank ∧
      ({ State.reset with ppu.mode := .vBlank } : State).ppu.mode = .vBlank := by decide
theorem test_witness_VideoStep :
    let s (m : PpuMode) (acc : Nat) : State := { State.reset with disp.ticks := 4, ppu.mode := m, ppu.acc := acc }
    (s .oamSearch 75).disp.ticks = (s .oamSearch 75).ppu.seen + 4 ∧
      75 + 4 < 80 ∧ 80 ≤ 76 + 4 ∧ 167 + 4 < 172 ∧ 172 ≤ 168 + 4 ∧ 199 + 4 < 204 ∧ 204 ≤ 200 + 4 ∧
      451 + 4 < 456 ∧ 456 ≤ 452 + 4 ∧ (s .pixelTransfer 0).ppu.mode = .pixelTransfer := by decide

/-- Sprite 0 at screen column 0 of line 0, tile 1 whose first row is all colour index 1, over an empty background. -/
def spriteState : State :=
  ((((State.reset.setCell 0x8010 0xFF).setCell 0xFE00 16).setCell 0xFE01 8).setCell 0xFE02 1)

theorem test_witness_RenderedPixel :
    let p := spriteState.sprite 0
    spriteState.ppu.frame.wf ∧ p.y.toNat ≤ 0 + 16 ∧ 0 + 16 < p.y.toNat + 8 ∧ p.x.toNat ≤ 0 + 8 ∧ 0 + 8 < p.x.toNat + 8 ∧
      spriteState.tileDecode 1 0 0 ≠ 0 ∧ p.attr.getLsbD 7 = false ∧
      (∀ j, j < 40 → 0 < j → ¬(0 + 16 < (spriteState.sprite j).y.toNat + 8)) ∧
      (∀ i, i < 40 → ¬(0 + 16 < (State.reset.sprite i).y.toNat + 8)) := by decide +kernel
theorem test_witness_RequestsOnlyFromSoftware :
    let s : State := { at_C000 [0xE0, 0x0F] with regs.a := 0x04 }
    ∃ t, step s = .next t ∧ t.irq.ifr.getLsbD 2 = true ∧ 1 ≤ 2 := ⟨_, rfl, by decide +kernel, by decide⟩
/-- The clause of the interrupt entry: the push of PC = 0xC002 writes 0x02 to 0xFF0F. -/
theorem test_witness_RequestsOnlyFromSoftware_entry :
    let s : State := { at_C000 [0x06, 0x00] with regs.sp := 0xFF11, irq := { ime := true, ie := 1, ifr := 1 } }
    ∃ t u, step s = .next t ∧ t.irq.ifr.getLsbD 1 = true ∧ s.irq.ifr.getLsbD 1 = false ∧
      entersInterrupt s u .vblank t ∧ 0xFF0F ∈ stackSlot u :=
  ⟨_, _, rfl, by decide +kernel, by decide, ⟨⟨_, rfl, rfl, rfl⟩, rfl, rfl, rfl⟩, by decide +kernel⟩
theorem test_witness_InterruptPriority :
    let s : State := { State.reset with irq := { ime := true, ie := 0b10001, ifr := 0b11000 } }
    State.reset.irq.ime = false ∧ State.reset.irq.ie = 0 ∧ State.reset.irq.ifr = 0 ∧
      State.reset.irq.ie &&& State.reset.irq.ifr = 0 ∧
      s.irq.ime = true ∧ (s.irq.ie &&& s.irq.ifr).getLsbD IntSource.joypad.bit = true ∧
      (∀ j, j < IntSource.joypad.bit → (s.irq.ie &&& s.irq.ifr).getLsbD j = false) := by decide
theorem test_witness_InterruptReturn :
    State.reset.params = defaultParams ∧ State.reset.bus.mem.wf ∧ isRam (State.reset.regs.sp - 2) = true ∧
      isRam (State.reset.regs.sp - 1) = true := ⟨rfl, by decide⟩
theorem test_witness_ExecStoresOnly :
    let i := Instr.push_BC
    (∃ t, exec i State.reset = .next t) ∧ reached (storedAddrs i State.reset) 0xFFFB = false ∧
      reached (storedAddrs i State.reset) 0xFFFC = true ∧ reached (storedAddrs i State.reset) 0xFFFE = false :=
  ⟨⟨_, rfl⟩, by decide⟩
theorem test_witness_ExecControlFrame :
    (∃ t, exec .inc_B State.reset = .next t) ∧ isTransfer .inc_B = false ∧ isUndefined .inc_B = false ∧
      (∀ n, Instr.inc_B ≠ .stop n) ∧ Instr.inc_B ≠ .di ∧ Instr.inc_B ≠ .ei ∧ Instr.inc_B ≠ .reti ∧ Instr.inc_B ≠ .halt ∧
      storedAddrs .inc_B State.reset = [] :=
  ⟨⟨_, rfl⟩, rfl, rfl, nofun, nofun, nofun, nofun, nofun, rfl⟩
theorem test_witness_TicksNeverDecrease :
    (∃ t, step State.reset = .next t) ∧
      ∃ t, step (at_C000 [0xD3]) = .next t ∧ t.disp.fault.isSome = true := ⟨⟨_, rfl⟩, _, rfl, by decide⟩
theorem test_witness_RomNeverChanges :
    (∃ t, step (at_C000 [0x77]) = .next t) ∧ (0x0000 : Word).toNat < 0x8000 ∧ (0x7FFF : Word).toNat < 0x8000 :=
  ⟨⟨_, rfl⟩, by decide, by decide⟩
theorem test_witness_ResetState :
    (∀ r, regionOf 0x0000 ≠ .special r) ∧ (∀ r, regionOf 0xFF7F ≠ .special r) ∧ 383 < 384 ∧ 7 < 8 := by
  refine ⟨fun r => ?_, fun r => ?_, by decide⟩ <;> cases r <;> decide
theorem test_witness_StepKeepsInv : State.reset.Inv ∧ ∃ t, step State.reset = .next t :=
  ⟨⟨by decide, by decide, by decide, by decide, by decide, by decide, by decide, by decide, by decide, by decide,
    nofun⟩, _, rfl⟩
theorem test_witness_RomLoadAndUserReset :
    let p : Params := { defaultParams with ioSeed := [0x11, 0x22] }
    (∃ s, loadRom p [0x31, 0xFE, 0xCF] = some s ∧ s.readByte .fetch 2 = 0xCF ∧ s.readByte .data 0xFF01 = 0x22 ∧
      s.readByte .data 0xFF10 = 0x00 ∧ s.readByte .data 0xFF00 = 0xFF) ∧
      loadRom p (List.replicate 32769 0) = none ∧
      ({ State.reset with params := p } : State).userReset.readByte .data 0xFF01 = 0x22 ∧
      State.reset.bus.mem.wf ∧ (0x7FFF : Word).toNat < 0x8000 ∧ 0x8000 ≤ (0x8000 : Word).toNat ∧
      regionOf 0xFF01 = .io ∧ regionOf 0xFF7F = .io ∧ regionOf 0xFF0F ≠ .io :=
  ⟨⟨_, rfl, by decide +kernel⟩, by decide +kernel, by decide +kernel, by decide, by decide, by decide, by decide,
    by decide, by decide⟩
/-- Power-on under the default parameters with an empty image is `State.reset` (R360, R363). -/
theorem test_powerOn_default : loadRom defaultParams [] = some State.reset := by decide +kernel

/-- The premise of the default costs in every statement of an instruction family. -/
theorem test_witness_default_costs : State.reset.params = defaultParams := rfl
theorem test_witness_SubSbcCp :
    AluOp.sub ∈ [AluOp.sub, .sbc, .cp] ∧ AluOp.sbc ∈ [AluOp.sub, .sbc, .cp] ∧ AluOp.cp ∈ [AluOp.sub, .sbc, .cp] := by
  decide
theorem test_witness_AndXorOr :
    AluOp.and ∈ [AluOp.and, .xor, .or] ∧ AluOp.xor ∈ [AluOp.and, .xor, .or] ∧ AluOp.or ∈ [AluOp.and, .xor, .or] := by
  decide
theorem test_witness_DecimalAdjust :
    let s : State := { State.reset with regs.a := 0x99, regs.b := 0x00 }
    99 < 100 ∧ 0 < 100 ∧ s.regs.a = BitVec.ofNat 8 (99 / 10 * 16 + 99 % 10) ∧
      s.regs.b = BitVec.ofNat 8 (0 / 10 * 16 + 0 % 10) := by decide
theorem test_witness_SystemInstructions :
    State.reset.irq.ime = false ∧ ({ State.reset with irq.ime := true } : State).irq.ime = true := by decide

end Sys2Proof.Tests
end

/-! PROOFS. The statements of 00_scope.md: a register write, completion of every instruction and step, the ROM load and
the user reset, and T, the parameters and the held buttons over a step. -/

namespace Sys2Proof.Machine

/-! ## Registers -/

/-- Settles O7: the register laws, field by field. -/
theorem registerWrite : Obligations.RegisterWrite := fun s d r v =>
  ⟨getR_setR s d r v, setR_regs_f s d v, setR_regs_sp s d v, setR_regs_pc s d v, setR_irq s d v, setR_disp s d v,
    setR_ppu s d v, setR_bus s d v, setR_host s d v, setR_params s d v⟩

/-! ## What an instruction does -/

/-- The shared operations of the rules of 41 to 48: from `s`, one of them gives `t`. Every instruction runs one
(`exec_operation`), so a fact about all 512 rows is a case split over this list. -/
inductive Operation (s : State) : State → Prop
  -- 41_load8.md
  | ldRegReg (op : Byte) (d r : Reg8) : Operation s (ldRegReg op d r s)
  | ldRegImm (op : Byte) (d : Reg8) (n : Byte) : Operation s (ldRegImm op d n s)
  | ldRegMem (op : Byte) (d : Reg8) : Operation s (ldRegMem op d s)
  | ldMemReg (op : Byte) (r : Reg8) : Operation s (ldMemReg op r s)
  | ldMemImm (op n : Byte) : Operation s (ldMemImm op n s)
  | loadA (op : Byte) (a : Word) : Operation s (loadA op a s)
  | storeA (op : Byte) (a : Word) : Operation s (storeA op a s)
  | loadAStep (op : Byte) (d : Word) : Operation s (loadAStep op d s)
  | storeAStep (op : Byte) (d : Word) : Operation s (storeAStep op d s)
  -- 42_load16.md
  | ldPairImm (op : Byte) (p : Pair) (n : Word) : Operation s (ldPairImm op p n s)
  | storeSP (op : Byte) (a : Word) : Operation s (storeSP op a s)
  | ldSPHL (op : Byte) : Operation s (ldSPHL op s)
  | pushPair (op : Byte) (p : StackPair) : Operation s (pushPair op p s)
  | popPair (op : Byte) (p : StackPair) : Operation s (popPair op p s)
  -- 43_alu8.md
  | aluReg (op : Byte) (o : AluOp) (r : Reg8) : Operation s (aluReg op o r s)
  | aluMem (op : Byte) (o : AluOp) : Operation s (aluMem op o s)
  | aluImm (op : Byte) (o : AluOp) (n : Byte) : Operation s (aluImm op o n s)
  | incReg (op : Byte) (r : Reg8) : Operation s (incReg op r s)
  | incMem (op : Byte) : Operation s (incMem op s)
  | decReg (op : Byte) (r : Reg8) : Operation s (decReg op r s)
  | decMem (op : Byte) : Operation s (decMem op s)
  | decimalAdjust (op : Byte) : Operation s (decimalAdjust op s)
  | complementA (op : Byte) : Operation s (complementA op s)
  | setCarry (op : Byte) : Operation s (setCarry op s)
  | complementCarry (op : Byte) : Operation s (complementCarry op s)
  -- 44_alu16.md
  | addHLPair (op : Byte) (p : Pair) : Operation s (addHLPair op p s)
  | incPair (op : Byte) (p : Pair) : Operation s (incPair op p s)
  | decPair (op : Byte) (p : Pair) : Operation s (decPair op p s)
  | addSPImm (op e : Byte) : Operation s (addSPImm op e s)
  | ldHLSP (op e : Byte) : Operation s (ldHLSP op e s)
  -- 45_rotate.md, 46_cb.md
  | rotateA (op : Byte) (o : ShiftOp) : Operation s (rotateA op o s)
  | cbShift (op2 : Byte) (f : ShiftOp) (o : Opnd8) : Operation s (cbShift op2 f o s)
  | cbBit (op2 : Byte) (b : BitNo) (o : Opnd8) : Operation s (cbBit op2 b o s)
  | cbRes (op2 : Byte) (b : BitNo) (o : Opnd8) : Operation s (cbRes op2 b o s)
  | cbSet (op2 : Byte) (b : BitNo) (o : Opnd8) : Operation s (cbSet op2 b o s)
  -- 47_control.md
  | jumpTo (op : Byte) (a : Word) : Operation s (jumpTo op a s)
  | callTo (op : Byte) (a : Word) : Operation s (callTo op a s)
  | ret (op : Byte) : Operation s (ret op s)
  | retInterrupt (op : Byte) : Operation s (retInterrupt op s)
  | jumpCond (op : Byte) (c : Cond) (a : Word) : Operation s (jumpCond op c a s)
  | jumpRelCond (op : Byte) (c : Cond) (e : Byte) : Operation s (jumpRelCond op c e s)
  | callCond (op : Byte) (c : Cond) (a : Word) : Operation s (callCond op c a s)
  | retCond (op : Byte) (c : Cond) : Operation s (retCond op c s)
  -- 48_system.md
  | nop (op : Byte) : Operation s (nop op s)
  | halt (op : Byte) : Operation s (halt op s)
  | stopCore (op : Byte) : Operation s (stopCore op s)
  | setIme (op : Byte) (b : Bool) : Operation s (setIme op b s)
  | raiseUndefined (op : Byte) : Operation s (s.raiseUndefined op)

/-- The escape runs one of the four extended operations, by field x of its second byte (R102, R305). -/
theorem Operation.runExtended (op2 : Byte) (s : State) : Operation s (runExtended op2 s) := by
  unfold Machine.runExtended
  dsimp only
  split
  · exact .cbShift ..
  · exact .cbBit ..
  · exact .cbRes ..
  · exact .cbSet ..

/-- Every instruction answers a next state, which one of the shared operations gives (R18). -/
theorem exec_operation (i : Instr) (s : State) : ∃ t, exec i s = .next t ∧ Operation s t := by
  cases i
  case prefix_CB op2 => exact ⟨_, rfl, .runExtended op2 s⟩
  all_goals exact ⟨_, rfl, by with_reducible constructor⟩

theorem exec_completes (i : Instr) (s : State) : ∃ t, exec i s = .next t :=
  (exec_operation i s).imp fun _ h => h.1

theorem executeNext_completes (s : State) : ∃ t, s.executeNext = .next t := exec_completes ..

theorem step_completes (s : State) : ∃ t, step s = .next t := by
  rcases step_cases s with ⟨_, h⟩ | ⟨_, _, _, h⟩ | ⟨_, _, _, _, h⟩ | ⟨_, _, h⟩
  · exact ⟨_, h⟩
  · exact ⟨_, h⟩
  · exact ⟨_, h⟩
  · obtain ⟨t, ht⟩ := executeNext_completes { s with disp.halted := false, disp.stopped := false }
    exact ⟨_, by rw [h, ht]⟩

/-- Settles O18: one shared operation per instruction, and the four ways a step can go. -/
theorem everyInstructionCompletes : Obligations.EveryInstructionCompletes := ⟨exec_completes, step_completes⟩

/-! ## The ROM load and the user reset -/

/-- Power-on differs from `State.reset` in memory and the parameters alone (R360). -/
theorem powerOn_eq (p : Params) (rom : Memory) :
    powerOn p rom = { State.reset with bus.mem := (powerOn p rom).bus.mem, params := p } := by
  rw [powerOn_mem, powerOn]

/-- A user reset keeps the parameters and the host's input, and differs from `State.reset` in memory besides (R361). -/
theorem userReset_eq (s : State) :
    s.userReset = { State.reset with bus.mem := s.userReset.bus.mem, host := s.host, params := s.params } := by
  rw [State.userReset, powerOn_mem, powerOn]

/-- Power-on over a ROM in canonical form meets the invariant: apart from memory it is `State.reset` (R360). -/
theorem powerOn_inv (p : Params) {rom : Memory} (hw : rom.wf) (hk : ∀ q ∈ rom, isCellKey q.1 = true) :
    (powerOn p rom).Inv where
  memory := powerOn_wf p hw
  keys := powerOn_keys p hk
  frame := Frame.wf_nil
  flags := show State.reset.regs.f &&& 0x0F = 0 by decide
  line := show State.reset.ppu.ly.toNat ≤ 153 by decide
  blank := show State.reset.ppu.mode = .vBlank ↔ 144 ≤ State.reset.ppu.ly.toNat by decide
  seen := Nat.le_refl 0
  stoppedSeen := nofun
  haltedIme := nofun
  oneWait := nofun
  faultAt := nofun

/-- The host's input is in no clause of the invariant. -/
theorem State.Inv.withHost {s : State} (h : s.Inv) (i : HostInput) : ({ s with host := i } : State).Inv :=
  ⟨h.memory, h.keys, h.frame, h.flags, h.line, h.blank, h.seen, h.stoppedSeen, h.haltedIme, h.oneWait, h.faultAt⟩

theorem romOf_keys {image : List Byte} (h : image.length ≤ 32768) : ∀ q ∈ romOf image, isCellKey q.1 = true := by
  intro q hq
  rcases Memory.mem_foldl_write (fun b : Byte × Nat => b.2) (fun b => b.1) image.zipIdx hq with hq | ⟨b, hb, hq⟩
  · cases hq
  · have hlt : b.2 < image.length := (List.mem_zipIdx' hb).1
    exact isCellKey_rom (by omega)

theorem romPart_keys (m : Memory) : ∀ q ∈ m.filter (fun p => p.1 < 0x8000), isCellKey q.1 = true := fun _ hq =>
  isCellKey_rom (of_decide_eq_true (List.mem_filter.1 hq).2)

theorem loadRom_eq_none {p : Params} {image : List Byte} : loadRom p image = none ↔ 32768 < image.length := by
  simp [loadRom]

theorem loadRom_eq_some {p : Params} {image : List Byte} {s : State} :
    loadRom p image = some s ↔ image.length ≤ 32768 ∧ powerOn p (romOf image) = s := by
  simp [loadRom]

/-- Settles O37: both actions are a power-on over a canonical ROM, read by `powerOn_readByte`. -/
theorem romLoadAndUserReset : Obligations.RomLoadAndUserReset := by
  refine ⟨fun p image => ⟨loadRom_eq_none, fun s hs => ?_⟩, fun s hw => ?_⟩
  · obtain ⟨hlen, rfl⟩ := loadRom_eq_some.1 hs
    obtain ⟨hwf, hrom, hrest⟩ := romOf_spec hlen
    have hread := powerOn_readByte p hwf hrest
    refine ⟨powerOn_eq p _, powerOn_inv p hwf (romOf_keys hlen), fun k a ha => ?_, fun k a => (hread k a).2.1,
      fun k a => (hread k a).2.2⟩
    rw [(hread k a).1 ha, hrom _ ha]
  · obtain ⟨hwf, hrom⟩ := romPart_spec hw
    have hread := powerOn_readByte s.params hwf fun k hk => by rw [hrom, if_neg (Nat.not_lt.2 hk)]
    have hinv : s.userReset.Inv := (powerOn_inv s.params hwf (romPart_keys _)).withHost s.host
    simp only [userReset_readByte]
    refine ⟨userReset_eq s, hinv.memory, fun _ => hinv, fun k a ha => ?_, fun k a => (hread k a).2.1,
      fun k a => (hread k a).2.2⟩
    have hregion : regionOf a = .rom := by simp [regionOf, ha]
    rw [(hread k a).1 ha, hrom, if_pos ha, readByte_storage k (by simp [hregion]), State.cell, storageKey, hregion]

/-! ## T, the parameters and the held buttons -/

@[simp] theorem writeOpnd_disp (s : State) (o : Opnd8) (v : Byte) : (s.writeOpnd o v).disp = s.disp := by
  cases o
  · exact setR_disp ..
  · exact writeByte_disp ..
@[simp] theorem writeOpnd_host (s : State) (o : Opnd8) (v : Byte) : (s.writeOpnd o v).host = s.host := by
  cases o
  · exact setR_host ..
  · exact writeByte_host ..
@[simp] theorem writeOpnd_params (s : State) (o : Opnd8) (v : Byte) : (s.writeOpnd o v).params = s.params := by
  cases o
  · exact setR_params ..
  · exact writeByte_params ..

@[simp] theorem applyAlu_disp (o : AluOp) (v : Byte) (s : State) : (applyAlu o v s).disp = s.disp := by
  cases o <;> simp [applyAlu, writesA]
@[simp] theorem applyAlu_host (o : AluOp) (v : Byte) (s : State) : (applyAlu o v s).host = s.host := by
  cases o <;> simp [applyAlu, writesA]
@[simp] theorem applyAlu_params (o : AluOp) (v : Byte) (s : State) : (applyAlu o v s).params = s.params := by
  cases o <;> simp [applyAlu, writesA]

/-- From `s` to `t` T does not fall, and the parameters, the host's input and the recorded fault stand. -/
def AdvancesClock (s t : State) : Prop :=
  s.disp.ticks ≤ t.disp.ticks ∧ t.params = s.params ∧ t.host = s.host ∧ t.disp.fault = s.disp.fault

theorem AdvancesClock.refl (s : State) : AdvancesClock s s := ⟨Nat.le_refl _, rfl, rfl, rfl⟩

theorem AdvancesClock.spend {s t : State} (h : AdvancesClock s t) (n : Nat) : AdvancesClock s (t.spend n) := by
  obtain ⟨hticks, hparams, hhost, hfault⟩ := h
  exact ⟨hticks.trans (Nat.le_add_right _ n), hparams, hhost, hfault⟩

theorem jumpTo_advancesClock (op : Byte) (a : Word) (s : State) : AdvancesClock s (jumpTo op a s) :=
  (AdvancesClock.refl s).spend _

theorem callTo_advancesClock (op : Byte) (a : Word) (s : State) : AdvancesClock s (callTo op a s) := by
  simp [AdvancesClock, callTo, State.spendBase]

theorem ret_advancesClock (op : Byte) (s : State) : AdvancesClock s (ret op s) := (AdvancesClock.refl s).spend _

theorem whenCond_advancesClock {s : State} {taken : State → State} (h : AdvancesClock s (taken s)) (c : Cond)
    (extra : Nat) (op : Byte) : AdvancesClock s (whenCond c extra taken op s) := by
  unfold whenCond
  split
  · exact h.spend extra
  · exact (AdvancesClock.refl s).spend _

theorem halt_advancesClock (op : Byte) (s : State) : AdvancesClock s (halt op s) := by
  unfold halt
  split <;> exact (AdvancesClock.refl s).spend _

/-- Every operation but R306's, which records the fault, is a run of register and bus writes, none of which reaches the
dispatcher, the host's input or the parameters, and then a charge of ticks. -/
theorem operation_advancesClock {s t : State} (h : Operation s t) :
    AdvancesClock s t ∨ ∃ op, t = s.raiseUndefined op := by
  cases h
  case raiseUndefined op => exact .inr ⟨op, rfl⟩
  all_goals left
  case jumpTo op a => exact jumpTo_advancesClock op a s
  case callTo op a => exact callTo_advancesClock op a s
  case ret op => exact ret_advancesClock op s
  case jumpCond op c a => exact whenCond_advancesClock (jumpTo_advancesClock op a s) c _ op
  case jumpRelCond op c e => exact whenCond_advancesClock (jumpTo_advancesClock op _ s) c _ op
  case callCond op c a => exact whenCond_advancesClock (callTo_advancesClock op a s) c _ op
  case retCond op c => exact whenCond_advancesClock (ret_advancesClock op s) c _ op
  case halt op => exact halt_advancesClock op s
  all_goals simp [AdvancesClock, State.spendBase, State.spendExtended, State.writeHL, State.dropTop, incFlags, decFlags,
    addSPFlags, ldRegReg, ldRegImm, ldRegMem, ldMemReg, ldMemImm, loadA, storeA, loadAStep, storeAStep, ldPairImm,
    storeSP, ldSPHL, pushPair, popPair, aluReg, aluMem, aluImm, incReg, incMem, decReg, decMem, decimalAdjust,
    complementA, setCarry, complementCarry, addHLPair, incPair, decPair, addSPImm, ldHLSP, rotateA, cbShift, cbBit,
    cbRes, cbSet, retInterrupt, State.returnFromInterrupt, nop, stopCore, setIme]

/-- From `s` to `t` T does not fall, the parameters and the held buttons stand, and T stands where a fault is recorded:
the conclusion of O31, for the parts of a step. -/
def KeepsTime (s t : State) : Prop :=
  s.disp.ticks ≤ t.disp.ticks ∧ t.params = s.params ∧ t.host.buttons = s.host.buttons ∧
    (t.disp.fault.isSome = true → t.disp.ticks = s.disp.ticks)

theorem AdvancesClock.keepsTime {s t : State} (h : AdvancesClock s t) (hf : s.disp.fault = none) : KeepsTime s t := by
  obtain ⟨hticks, hparams, hhost, hfault⟩ := h
  exact ⟨hticks, hparams, by rw [hhost], by simp [hfault, hf]⟩

theorem executeNext_keepsTime {s t : State} (hf : s.disp.fault = none) (h : s.executeNext = .next t) :
    KeepsTime s t := by
  obtain ⟨_, ht, hop⟩ := exec_operation s.fetchInstr (s.afterFetch (opLength (s.fetchByte 0)).toNat)
  obtain rfl : _ = t := Host.Outcome.next.inj (ht.symm.trans h)
  rcases operation_advancesClock hop with hc | ⟨op, rfl⟩
  · exact hc.keepsTime hf
  · exact ⟨Nat.le_refl _, rfl, rfl, fun _ => rfl⟩

/-- An interrupt entry only adds ticks, and leaves the parameters, the held buttons and the fault (R315). -/
theorem interruptStep_frame (s : State) :
    s.disp.ticks ≤ s.interruptStep.disp.ticks ∧ s.interruptStep.params = s.params ∧
    s.interruptStep.host.buttons = s.host.buttons ∧ s.interruptStep.disp.fault = s.disp.fault := by
  rcases interruptStep_cases s with h | ⟨i, _, _, h⟩
  · simp [h]
  · rw [h, takeInterrupt_disp, takeInterrupt_params]
    exact ⟨Nat.le_add_right _ _, rfl, by simp [State.takeInterrupt], rfl⟩

/-- The rest of the core step runs only where no fault is recorded, and records none (R120). -/
theorem KeepsTime.finishStep {s t : State} (h : KeepsTime s t) : KeepsTime s t.finishStep := by
  unfold State.finishStep
  split
  · exact h
  · rename_i hf
    obtain ⟨hticks, hparams, hbuttons, -⟩ := h
    obtain ⟨-, hdisp, -, hhost, hpar, -⟩ := ppuStep_frame t
    obtain ⟨iticks, iparams, ibuttons, ifault⟩ := interruptStep_frame t.ppuStep
    rw [hdisp] at iticks ifault
    exact ⟨hticks.trans iticks, iparams.trans (hpar.trans hparams),
      ibuttons.trans ((congrArg _ hhost).trans hbuttons), fun hs => absurd (ifault ▸ hs) hf⟩

theorem step_keepsTime {s t : State} (h : step s = .next t) : KeepsTime s t := by
  rcases step_cases s with ⟨_, hs⟩ | ⟨hf, _, _, hs⟩ | ⟨hf, _, _, _, hs⟩ | ⟨hf, _, hs⟩
  · obtain rfl : s = t := Host.Outcome.next.inj (hs.symm.trans h)
    exact ⟨Nat.le_refl _, rfl, rfl, fun _ => rfl⟩
  all_goals have hnone : s.disp.fault = none := by simpa using hf
  · obtain rfl : _ = t := Host.Outcome.next.inj (hs.symm.trans h)
    exact ((AdvancesClock.refl s).keepsTime hnone).finishStep
  · obtain rfl : _ = t := Host.Outcome.next.inj (hs.symm.trans h)
    exact (((AdvancesClock.refl s).spend _).keepsTime hnone).finishStep
  · obtain ⟨u, hu⟩ := executeNext_completes { s with disp.halted := false, disp.stopped := false }
    rw [hu] at hs
    obtain rfl : u.finishStep = t := Host.Outcome.next.inj (hs.symm.trans h)
    have hrun := executeNext_keepsTime (by exact hnone) hu
    exact KeepsTime.finishStep (s := s) hrun

/-- Settles O31: T and the parameters through the instruction, then through the rest of the core step. -/
theorem ticksNeverDecrease : Obligations.TicksNeverDecrease := fun _ _ => step_keepsTime

end Sys2Proof.Machine

/-! PROOFS. The statements of 10_state.md: the pair views, F, the state after reset, what an instruction may change of the
control state and the units' registers, and the invariant over a core step. -/

namespace Sys2Proof.Machine

/-! ## The registers: pair views, F and reset -/

theorem cat_inj {h l h' l' : Byte} : cat h l = cat h' l' ↔ h = h' ∧ l = l' :=
  ⟨fun e => ⟨by simpa using congrArg hiByte e, by simpa using congrArg loByte e⟩, fun ⟨hh, hl⟩ => by rw [hh, hl]⟩

theorem and_highNibble_eq_append (b : Byte) : b &&& 0xF0 = b.extractLsb' 4 4 ++ 0#4 := by
  revert b; decide

theorem and_highNibble_eq_self_iff (b : Byte) : b &&& 0xF0 = b ↔ b.extractLsb' 0 4 = 0 := by
  revert b; decide

theorem and_highNibble_and_lowNibble (b : Byte) : b &&& 0xF0 &&& 0x0F = 0 := by
  rw [BitVec.and_assoc]; exact BitVec.and_zero

theorem and_highNibble_idem (b : Byte) : b &&& 0xF0 &&& 0xF0 = b &&& 0xF0 := by
  rw [BitVec.and_assoc, BitVec.and_self]

theorem loByte_extract_low (v : Word) : (loByte v).extractLsb' 0 4 = v.extractLsb' 0 4 := by
  apply BitVec.eq_of_getLsbD_eq
  intro i hi
  simp [loByte, hi]

theorem loByte_extract_high (v : Word) : (loByte v).extractLsb' 4 4 = v.extractLsb' 4 4 := by
  apply BitVec.eq_of_getLsbD_eq
  intro i hi
  simp [loByte, hi]

theorem getBC_setBC (s : State) (v : Word) : (s.setBC v).getBC = v := cat_hiByte_loByte v
theorem getDE_setDE (s : State) (v : Word) : (s.setDE v).getDE = v := cat_hiByte_loByte v
theorem getHL_setHL (s : State) (v : Word) : (s.setHL v).getHL = v := cat_hiByte_loByte v

theorem getAF_setAF (s : State) (v : Word) : (s.setAF v).getAF = cat (hiByte v) (loByte v &&& 0xF0) :=
  congrArg (cat (hiByte v)) (and_highNibble_idem (loByte v))

/-- Only the low nibble of F is lost in the AF round trip (R31, R32). -/
theorem getAF_setAF_eq_self_iff (s : State) (v : Word) : (s.setAF v).getAF = v ↔ v.extractLsb' 0 4 = 0 := by
  calc (s.setAF v).getAF = v
      ↔ cat (hiByte v) (loByte v &&& 0xF0) = cat (hiByte v) (loByte v) := by rw [getAF_setAF, cat_hiByte_loByte]
    _ ↔ loByte v &&& 0xF0 = loByte v := by rw [cat_inj, and_iff_right rfl]
    _ ↔ v.extractLsb' 0 4 = 0 := by rw [and_highNibble_eq_self_iff, loByte_extract_low]

theorem setAF_eq (s : State) (v : Word) :
    s.setAF v = { s with regs.a := v.extractLsb' 8 8, regs.f := v.extractLsb' 4 4 ++ 0#4 } := by
  rw [State.setAF, and_highNibble_eq_append, loByte_extract_high, hiByte]

/-- Settles O6: the views and writes are their own equations, AF's up to the nibble F drops. -/
theorem pairViews : Obligations.PairViews := fun s v =>
  ⟨rfl, rfl, rfl, rfl, rfl, rfl, rfl, setAF_eq s v, getBC_setBC s v, getDE_setDE s v, getHL_setHL s v,
    getAF_setAF_eq_self_iff s v⟩

theorem getF_and_lowNibble (s : State) : s.getF &&& 0x0F = 0 := and_highNibble_and_lowNibble s.regs.f

theorem getFlag_iff (s : State) (mask : Byte) : s.getFlag mask = true ↔ s.regs.f &&& mask ≠ 0 := by
  simp [State.getFlag]

/-- Settles O8: F's writes and accessors are their own equations; a masked byte has no low nibble. -/
theorem flagRegister : Obligations.FlagRegister := fun s v mask b w =>
  ⟨getF_and_lowNibble s, setF_regs_f s v, setAF_regs_f s w, getFlag_iff s mask, rfl, rfl, setFlag_eq s mask b,
    rfl, rfl, rfl, rfl⟩

/-- Settles O33: the registers are those of `Regs.reset`, whose pairs are evaluated. -/
theorem resetRegisters : Obligations.ResetRegisters := ⟨rfl, by decide⟩

/-! ## The rest of the reset state -/

@[simp] theorem reset_cell (k : Nat) : State.reset.cell k = Memory.unlisted k := rfl

theorem Memory.unlisted_below {k : Nat} (h : k < 0xFF00) : Memory.unlisted k = 0 :=
  if_neg fun hk => absurd hk.1 (Nat.not_le.2 h)

@[simp] theorem Frame.pixel_nil (y x : Nat) : Frame.pixel [] y x = ⟨0, 0, 0⟩ := by
  show (List.replicate 160 _).getD x _ = _
  rw [List.getD_eq_getElem?_getD, List.getElem?_getD_replicate_default_eq]

theorem planePixel_zero (x : Nat) : planePixel 0 0 x = 0 := by simp [planePixel]

theorem reset_tileCache {t y x : Nat} (ht : t < 384) (hy : y < 8) : State.reset.tileCache t y x = 0 := by
  have h0 {o : Nat} (ho : o < 0x1800) : State.reset.vram o = 0 := Memory.unlisted_below (by omega)
  rw [State.tileCache, State.tileDecode, h0 (by omega), h0 (by omega), planePixel_zero]

/-- A storage address whose key is in the I/O block is of the I/O region (R61, R79). -/
theorem regionOf_io_of_key {a : Word} (hs : ∀ r, regionOf a ≠ .special r)
    (hk : 0xFF00 ≤ storageKey a ∧ storageKey a < 0xFF80) : regionOf a = .io := by
  have hb : 0xFF00 ≤ a.toNat ∧ a.toNat < 0xFF80 := by
    rcases storageKey_eq a with ⟨hecho, he⟩ | he <;> omega
  revert hs
  simp only [regionOf]
  rw [if_neg (by omega), if_neg (by omega), if_neg (by omega), if_neg (by omega), if_neg (by omega), if_neg (by omega)]
  split
  · exact fun hs => absurd rfl (hs _)
  · exact fun _ => if_pos hb.2

theorem unlisted_storageKey {a : Word} (hs : ∀ r, regionOf a ≠ .special r) :
    Memory.unlisted (storageKey a) = if regionOf a = .io then ioSeed (a.toNat - 0xFF00) else 0 := by
  split
  · rename_i hio
    obtain ⟨hlo, hi, hk⟩ := io_index hio
    have hlt := (mem_ioIndices.1 hi).1
    rw [hk, Memory.unlisted, if_pos ⟨hlo, by omega⟩]
  · rename_i hio
    exact if_neg fun hk => hio (regionOf_io_of_key hs hk)

/-- Settles O34: memory is empty after reset, so every byte reads as an unlisted one. -/
theorem resetState : Obligations.ResetState := by
  refine ⟨rfl, rfl, rfl, Frame.pixel_nil, fun t y x ht hy _ => reset_tileCache ht hy, rfl, rfl, fun k a hs => ?_,
    fun k => rfl⟩
  rw [readByte_storage k hs, reset_cell, unlisted_storageKey hs]

/-- Settles O35: reset is power-on with the default parameters and an empty image. -/
theorem resetInv : Obligations.ResetInv :=
  (powerOn_default ▸ powerOn_inv defaultParams Memory.wf_nil nofun : State.reset.Inv)

/-! ## Bus writes and the units' registers -/

/-- The address of a special register (R72). -/
def Special.addr : Special → Word
  | .p1 => 0xFF00
  | .intFlag => 0xFF0F
  | .lcdc => 0xFF40
  | .scy => 0xFF42
  | .scx => 0xFF43
  | .ly => 0xFF44
  | .dma => 0xFF46
  | .bgp => 0xFF47
  | .obp0 => 0xFF48
  | .obp1 => 0xFF49
  | .intEnable => 0xFFFF

theorem eq_addr_of_special {a : Word} {r : Special} (h : regionOf a = .special r) : a = r.addr := by
  have htable : ∀ p ∈ specialTable, p.1 = p.2.addr.toNat := by decide
  have hlookup : specialTable.lookup a.toNat = some r := by
    simp only [regionOf] at h
    split_ifs at h <;> split at h <;> simp_all
  obtain ⟨l, l', hl, -⟩ := List.lookup_eq_some_iff.1 hlookup
  exact BitVec.eq_of_toNat_eq (htable (a.toNat, r) (by simp [hl]))

/-- From `s` to `t` IF, IE and each register of the video unit and the bus change only if their address is in `l`; the
video unit's mode, LY, counters and frame, the host's input and the parameters stand. -/
def UnitFrame (l : List Word) (s t : State) : Prop :=
  (0xFF0F ∉ l → t.irq.ifr = s.irq.ifr) ∧ (0xFFFF ∉ l → t.irq.ie = s.irq.ie) ∧
  (0xFF00 ∉ l → t.bus.joysel = s.bus.joysel) ∧ (0xFF46 ∉ l → t.bus.dma = s.bus.dma) ∧
  (0xFF40 ∉ l → t.ppu.lcdc = s.ppu.lcdc) ∧ (0xFF42 ∉ l → t.ppu.scy = s.ppu.scy) ∧
  (0xFF43 ∉ l → t.ppu.scx = s.ppu.scx) ∧ (0xFF47 ∉ l → t.ppu.bgp = s.ppu.bgp) ∧
  (0xFF48 ∉ l → t.ppu.obp0 = s.ppu.obp0) ∧ (0xFF49 ∉ l → t.ppu.obp1 = s.ppu.obp1) ∧
  t.ppu.mode = s.ppu.mode ∧ t.ppu.ly = s.ppu.ly ∧ t.ppu.acc = s.ppu.acc ∧ t.ppu.seen = s.ppu.seen ∧
  t.ppu.frame = s.ppu.frame ∧ t.host = s.host ∧ t.params = s.params

theorem UnitFrame.refl (l : List Word) (s : State) : UnitFrame l s s := by simp [UnitFrame]

theorem UnitFrame.trans {l : List Word} {s t u : State} (h : UnitFrame l s t) (h' : UnitFrame l t u) :
    UnitFrame l s u := by
  unfold UnitFrame at *
  grind

theorem writeByte_unitFrame {l : List Word} {a : Word} (h : a ∈ l) (s : State) (v : Byte) :
    UnitFrame l s (s.writeByte a v) := by
  rcases writeByte_cases s a v with ⟨-, hw⟩ | ⟨r, hr, hw⟩ | ⟨-, -, hw⟩
  · rw [hw]; exact .refl l s
  · rw [hw]
    obtain rfl := eq_addr_of_special hr
    obtain ⟨-, dirq, -, dppu, dhost, dparams, djoysel, -⟩ := oamDma_frame s v
    cases r <;> simp_all [UnitFrame, State.writeSpecial, Special.addr]
  · simp [hw, UnitFrame]

/-- The bus writes `ws`, in order. -/
def State.storeAll (s : State) (ws : List (Word × Byte)) : State := ws.foldl (fun u w => u.writeByte w.1 w.2) s

@[simp] theorem storeAll_nil (s : State) : s.storeAll [] = s := rfl
@[simp] theorem storeAll_cons (s : State) (w : Word × Byte) (ws : List (Word × Byte)) :
    s.storeAll (w :: ws) = (s.writeByte w.1 w.2).storeAll ws := rfl

/-- What every bus write keeps, a run of them keeps. -/
theorem storeAll_induct {P : State → Prop} (h : ∀ t a v, P t → P (t.writeByte a v)) {s : State} (hs : P s)
    (ws : List (Word × Byte)) : P (s.storeAll ws) := by
  induction ws generalizing s with
  | nil => exact hs
  | cons w ws ih => exact ih (h s w.1 w.2 hs)

theorem storeAll_unitFrame (s : State) {l : List Word} (ws : List (Word × Byte)) (h : ∀ w ∈ ws, w.1 ∈ l) :
    UnitFrame l s (s.storeAll ws) := by
  induction ws generalizing s with
  | nil => exact .refl l s
  | cons w ws ih =>
    exact (writeByte_unitFrame (h w (by simp)) s w.2).trans (ih _ fun x hx => h x (by simp [hx]))

/-- A run of bus writes leaves the registers, the dispatcher and IME. -/
theorem storeAll_frame (s : State) (ws : List (Word × Byte)) :
    (s.storeAll ws).regs = s.regs ∧ (s.storeAll ws).disp = s.disp ∧ (s.storeAll ws).irq.ime = s.irq.ime :=
  storeAll_induct (P := fun t => t.regs = s.regs ∧ t.disp = s.disp ∧ t.irq.ime = s.irq.ime)
    (fun t a v h => by simpa [(writeByte_keeps t a v).1] using h) ⟨rfl, rfl, rfl⟩ ws

theorem dmaByte_setSP (v : Byte) (s : State) (x : Word) (i : Nat) :
    dmaByte v (s.setSP x) i = (dmaByte v s i).setSP x := by
  rw [dmaByte, readByte_congr (s := s) (t := s.setSP x) _ _ rfl rfl rfl rfl]; rfl

theorem oamDma_setSP (s : State) (x : Word) (v : Byte) : (s.setSP x).oamDma v = (s.oamDma v).setSP x := by
  unfold State.oamDma
  generalize List.range 160 = l
  exact List.foldl_hom (fun u => u.setSP x) (init := { s with bus.dma := v }) fun u i => dmaByte_setSP v u x i

/-- SP plays no part in a bus write. -/
theorem writeByte_setSP (s : State) (x a : Word) (v : Byte) :
    (s.setSP x).writeByte a v = (s.writeByte a v).setSP x := by
  simp only [State.writeByte]
  cases regionOf a with
  | special r =>
    cases r
    case dma => exact oamDma_setSP s x v
    all_goals rfl
  | _ => rfl

/-- A push is two bus writes and a new SP (R81). -/
theorem push_eq (s : State) (v : Word) :
    s.push v = (s.writeShort (s.regs.sp - 2) v).setSP (s.regs.sp - 2) := by
  simp only [State.push, State.writeShort, writeByte_setSP]

/-! ## What an operation changes -/

/-- `t` is `u` but for the registers and T. -/
def RegsOnly (u t : State) : Prop :=
  t.irq = u.irq ∧ t.disp.halted = u.disp.halted ∧ t.disp.stopped = u.disp.stopped ∧ t.disp.fault = u.disp.fault ∧
    t.ppu = u.ppu ∧ t.bus = u.bus ∧ t.host = u.host ∧ t.params = u.params

/-- From `s`, bus writes to the addresses `l`, in order, and beyond them only registers and T change. -/
def Stores (l : List Word) (s t : State) : Prop :=
  ∃ ws : List (Word × Byte), ws.map Prod.fst = l ∧ RegsOnly (s.storeAll ws) t

/-- `Stores`, and PC stands. -/
def StoresInPlace (l : List Word) (s t : State) : Prop := Stores l s t ∧ t.regs.pc = s.regs.pc

theorem Stores.spend {l : List Word} {s t : State} (h : Stores l s t) (n : Nat) : Stores l s (t.spend n) := h

theorem StoresInPlace.spend {l : List Word} {s t : State} (h : StoresInPlace l s t) (n : Nat) :
    StoresInPlace l s (t.spend n) := h

theorem StoresInPlace.silent {s t : State} (h : RegsOnly s t ∧ t.regs.pc = s.regs.pc) : StoresInPlace [] s t :=
  ⟨⟨[], rfl, h.1⟩, h.2⟩

theorem StoresInPlace.one {s t : State} {a : Word} (v : Byte)
    (h : RegsOnly (s.writeByte a v) t ∧ t.regs.pc = s.regs.pc) : StoresInPlace [a] s t :=
  ⟨⟨[(a, v)], rfl, h.1⟩, h.2⟩

theorem Stores.two {s t : State} {a : Word} (v : Word) (h : RegsOnly (s.writeShort a v) t) :
    Stores [a, a + 1] s t :=
  ⟨[(a, loByte v), (a + 1, hiByte v)], rfl, h⟩

theorem push_storesInPlace (s : State) (v : Word) : StoresInPlace (stackSlot s) s (s.push v) :=
  ⟨.two v (by rw [push_eq]; simp [RegsOnly]), by simp⟩

/-- The addresses a write of the operand stores to (R103). -/
def opndStored (s : State) : Opnd8 → List Word
  | .reg _ => []
  | .mHL => [s.getHL]

theorem writeOpnd_storesInPlace (s : State) (o : Opnd8) (v : Byte) :
    StoresInPlace (opndStored s o) s (s.writeOpnd o v) := by
  cases o with
  | reg r => exact .silent (by simp [RegsOnly, State.writeOpnd])
  | mHL => exact .one v (by simp [RegsOnly, State.writeOpnd, State.writeHL])

theorem RegsOnly.flagLine {u t : State} (h : RegsOnly u t) (z n h' c : Option Bool) :
    RegsOnly u (t.flagLine z n h' c) := by simpa [RegsOnly] using h

theorem StoresInPlace.flagLine {l : List Word} {s t : State} (h : StoresInPlace l s t) (z n h' c : Option Bool) :
    StoresInPlace l s (t.flagLine z n h' c) := by
  obtain ⟨⟨ws, hl, hr⟩, hpc⟩ := h
  exact ⟨⟨ws, hl, hr.flagLine z n h' c⟩, by simpa using hpc⟩

section
variable (op : Byte) (s : State)

/-! ### Operations on registers -/

@[simp] theorem ldRegReg_silent (d r : Reg8) : StoresInPlace [] s (ldRegReg op d r s) :=
  (StoresInPlace.silent (by simp [RegsOnly])).spend _
@[simp] theorem ldRegImm_silent (d : Reg8) (n : Byte) : StoresInPlace [] s (ldRegImm op d n s) :=
  (StoresInPlace.silent (by simp [RegsOnly])).spend _
@[simp] theorem ldRegMem_silent (d : Reg8) : StoresInPlace [] s (ldRegMem op d s) :=
  (StoresInPlace.silent (by simp [RegsOnly])).spend _
@[simp] theorem loadA_silent (a : Word) : StoresInPlace [] s (loadA op a s) :=
  (StoresInPlace.silent (by simp [RegsOnly])).spend _
@[simp] theorem loadAStep_silent (d : Word) : StoresInPlace [] s (loadAStep op d s) :=
  (StoresInPlace.silent (by simp [RegsOnly])).spend _
@[simp] theorem ldPairImm_silent (p : Pair) (n : Word) : StoresInPlace [] s (ldPairImm op p n s) :=
  (StoresInPlace.silent (by simp [RegsOnly])).spend _
@[simp] theorem ldSPHL_silent : StoresInPlace [] s (ldSPHL op s) :=
  (StoresInPlace.silent (by simp [RegsOnly])).spend _
@[simp] theorem popPair_silent (p : StackPair) : StoresInPlace [] s (popPair op p s) :=
  (StoresInPlace.silent (by simp [RegsOnly, State.dropTop])).spend _
theorem applyAlu_silent (o : AluOp) (v : Byte) : StoresInPlace [] s (applyAlu o v s) := by
  rw [applyAlu_eq]; exact .silent (by simp [RegsOnly])
@[simp] theorem aluReg_silent (o : AluOp) (r : Reg8) : StoresInPlace [] s (aluReg op o r s) :=
  (applyAlu_silent s o _).spend _
@[simp] theorem aluMem_silent (o : AluOp) : StoresInPlace [] s (aluMem op o s) := (applyAlu_silent s o _).spend _
@[simp] theorem aluImm_silent (o : AluOp) (n : Byte) : StoresInPlace [] s (aluImm op o n s) :=
  (applyAlu_silent s o n).spend _
@[simp] theorem incReg_silent (r : Reg8) : StoresInPlace [] s (incReg op r s) :=
  (StoresInPlace.silent (by simp [RegsOnly, incFlags])).spend _
@[simp] theorem decReg_silent (r : Reg8) : StoresInPlace [] s (decReg op r s) :=
  (StoresInPlace.silent (by simp [RegsOnly, decFlags])).spend _
@[simp] theorem decimalAdjust_silent : StoresInPlace [] s (decimalAdjust op s) :=
  (StoresInPlace.silent (by simp [RegsOnly])).spend _
@[simp] theorem complementA_silent : StoresInPlace [] s (complementA op s) :=
  (StoresInPlace.silent (by simp [RegsOnly])).spend _
@[simp] theorem setCarry_silent : StoresInPlace [] s (setCarry op s) :=
  (StoresInPlace.silent (by simp [RegsOnly])).spend _
@[simp] theorem complementCarry_silent : StoresInPlace [] s (complementCarry op s) :=
  (StoresInPlace.silent (by simp [RegsOnly])).spend _
@[simp] theorem addHLPair_silent (p : Pair) : StoresInPlace [] s (addHLPair op p s) :=
  (StoresInPlace.silent (by simp [RegsOnly])).spend _
@[simp] theorem incPair_silent (p : Pair) : StoresInPlace [] s (incPair op p s) :=
  (StoresInPlace.silent (by simp [RegsOnly])).spend _
@[simp] theorem decPair_silent (p : Pair) : StoresInPlace [] s (decPair op p s) :=
  (StoresInPlace.silent (by simp [RegsOnly])).spend _
@[simp] theorem addSPImm_silent (e : Byte) : StoresInPlace [] s (addSPImm op e s) :=
  (StoresInPlace.silent (by simp [RegsOnly, addSPFlags])).spend _
@[simp] theorem ldHLSP_silent (e : Byte) : StoresInPlace [] s (ldHLSP op e s) :=
  (StoresInPlace.silent (by simp [RegsOnly, addSPFlags])).spend _
@[simp] theorem rotateA_silent (o : ShiftOp) : StoresInPlace [] s (rotateA op o s) :=
  (StoresInPlace.silent (by simp [RegsOnly])).spend _
@[simp] theorem nop_silent : StoresInPlace [] s (nop op s) := (StoresInPlace.silent (by simp [RegsOnly])).spend _

/-! ### Operations that store -/

theorem ldMemReg_stores (r : Reg8) : StoresInPlace [s.getHL] s (ldMemReg op r s) :=
  (StoresInPlace.one (s.getR r) (by simp [RegsOnly, State.writeHL])).spend _
theorem ldMemImm_stores (n : Byte) : StoresInPlace [s.getHL] s (ldMemImm op n s) :=
  (StoresInPlace.one n (by simp [RegsOnly, State.writeHL])).spend _
theorem storeA_stores (a : Word) : StoresInPlace [a] s (storeA op a s) :=
  (StoresInPlace.one s.regs.a (by simp [RegsOnly])).spend _
theorem storeAStep_stores (d : Word) : StoresInPlace [s.getHL] s (storeAStep op d s) :=
  (StoresInPlace.one s.regs.a (by simp [RegsOnly, State.writeHL])).spend _
theorem incMem_stores : StoresInPlace [s.getHL] s (incMem op s) :=
  (StoresInPlace.one (inc8 s.readHL) (by simp [RegsOnly, State.writeHL, incFlags])).spend _
theorem decMem_stores : StoresInPlace [s.getHL] s (decMem op s) :=
  (StoresInPlace.one (dec8 s.readHL) (by simp [RegsOnly, State.writeHL, decFlags])).spend _
theorem storeSP_stores (a : Word) : StoresInPlace [a, a + 1] s (storeSP op a s) :=
  StoresInPlace.spend ⟨.two s.regs.sp (by simp [RegsOnly]), by simp⟩ _
theorem pushPair_stores (p : StackPair) : StoresInPlace (stackSlot s) s (pushPair op p s) :=
  (push_storesInPlace s _).spend _

/-! ### Extended operations -/

theorem cbShift_stores (f : ShiftOp) (o : Opnd8) : StoresInPlace (opndStored s o) s (cbShift op f o s) :=
  ((writeOpnd_storesInPlace s o _).flagLine _ _ _ _).spend _
@[simp] theorem cbBit_silent (b : BitNo) (o : Opnd8) : StoresInPlace [] s (cbBit op b o s) :=
  (StoresInPlace.silent (by simp [RegsOnly])).spend _
theorem cbRes_stores (b : BitNo) (o : Opnd8) : StoresInPlace (opndStored s o) s (cbRes op b o s) :=
  (writeOpnd_storesInPlace s o _).spend _
theorem cbSet_stores (b : BitNo) (o : Opnd8) : StoresInPlace (opndStored s o) s (cbSet op b o s) :=
  (writeOpnd_storesInPlace s o _).spend _

@[simp] theorem cbShift_silent (f : ShiftOp) (r : Reg8) : StoresInPlace [] s (cbShift op f (.reg r) s) :=
  cbShift_stores op s f (.reg r)
@[simp] theorem cbRes_silent (b : BitNo) (r : Reg8) : StoresInPlace [] s (cbRes op b (.reg r) s) :=
  cbRes_stores op s b (.reg r)
@[simp] theorem cbSet_silent (b : BitNo) (r : Reg8) : StoresInPlace [] s (cbSet op b (.reg r) s) :=
  cbSet_stores op s b (.reg r)

theorem opndStored_opndOfCode (z : BitVec 3) : opndStored s (opndOfCode z) = if z = 6 then [s.getHL] else [] := by
  simp only [BitVec.toNat_eq]
  unfold opndOfCode
  split <;> simp_all [opndStored]

/-- The escape stores where its extended row does: at HL, for a row on (HL) that is no BIT (R103, R305). -/
theorem runExtended_stores : StoresInPlace (storedAddrs (.prefix_CB op) s) s (runExtended op s) := by
  have hbit (hx : op.extractLsb' 6 2 = 1) : storedAddrs (.prefix_CB op) s = [] := if_neg fun h => h.2 hx
  have hwrite (hx : op.extractLsb' 6 2 ≠ 1) :
      storedAddrs (.prefix_CB op) s = opndStored s (opndOfCode (op.extractLsb' 0 3)) := by
    rw [opndStored_opndOfCode]
    exact if_congr (and_iff_left hx) rfl rfl
  unfold runExtended
  dsimp only
  split
  case h_1 hx => rw [hwrite fun h => by simp [h] at hx]; exact cbShift_stores ..
  case h_2 hx => rw [hbit (BitVec.eq_of_toNat_eq hx)]; exact cbBit_silent ..
  case h_3 hx => rw [hwrite fun h => by simp [h] at hx]; exact cbRes_stores ..
  case h_4 _ hx _ => rw [hwrite fun h => hx (by simp [h])]; exact cbSet_stores ..

/-! ### Control transfers -/

theorem jumpTo_stores (a : Word) : Stores [] s (jumpTo op a s) := ⟨[], rfl, by simp [RegsOnly, jumpTo, State.spendBase]⟩
theorem ret_stores : Stores [] s (ret op s) := ⟨[], rfl, by simp [RegsOnly, ret, State.spendBase, State.dropTop]⟩
theorem callTo_stores (a : Word) : Stores (stackSlot s) s (callTo op a s) := (push_storesInPlace s _).1

/-- An untaken transfer stores nothing (R280). -/
theorem whenCond_stores {l : List Word} {taken : State → State} (h : Stores l s (taken s)) (c : Cond) (extra : Nat) :
    Stores (if s.cond c then l else []) s (whenCond c extra taken op s) := by
  unfold whenCond
  split
  · exact h.spend extra
  · exact (nop_silent op s).1

theorem whenCond_silent {taken : State → State} (h : Stores [] s (taken s)) (c : Cond) (extra : Nat) :
    Stores [] s (whenCond c extra taken op s) := by
  simpa using whenCond_stores op s h c extra

end

/-! ## What an instruction changes -/

/-- `t` has IE, IF, the video unit, the bus, the host's input and the parameters of `u`. -/
def SameUnits (u t : State) : Prop :=
  t.irq.ie = u.irq.ie ∧ t.irq.ifr = u.irq.ifr ∧ t.ppu = u.ppu ∧ t.bus = u.bus ∧ t.host = u.host ∧ t.params = u.params

theorem SameUnits.refl (s : State) : SameUnits s s := ⟨rfl, rfl, rfl, rfl, rfl, rfl⟩

theorem RegsOnly.sameUnits {u t : State} (h : RegsOnly u t) : SameUnits u t := by
  obtain ⟨hirq, -, -, -, hppu, hbus, hhost, hparams⟩ := h
  exact ⟨by rw [hirq], by rw [hirq], hppu, hbus, hhost, hparams⟩

/-- What instruction `i` may change from `s` to `t`: the control state by the kind of `i`, and the units by bus writes to
exactly the addresses `storedAddrs` lists. -/
structure Effect (i : Instr) (s t : State) : Prop where
  ime : i ≠ .di → i ≠ .ei → i ≠ .reti → t.irq.ime = s.irq.ime
  halted : i ≠ .halt → t.disp.halted = s.disp.halted
  stopped : (∀ n, i ≠ .stop n) → t.disp.stopped = s.disp.stopped
  fault : isUndefined i = false → t.disp.fault = s.disp.fault
  pc : isTransfer i = false → i ≠ .halt → isUndefined i = false → t.regs.pc = s.regs.pc
  stores : ∃ ws : List (Word × Byte), ws.map Prod.fst = storedAddrs i s ∧ SameUnits (s.storeAll ws) t

theorem Effect.of_stores {i : Instr} {l : List Word} {s t : State} (h : Stores l s t) (hl : storedAddrs i s = l)
    (hpc : isTransfer i = false → t.regs.pc = s.regs.pc) : Effect i s t := by
  obtain ⟨ws, hws, hr⟩ := h
  obtain ⟨-, hdisp, hime⟩ := storeAll_frame s ws
  have hunits := hr.sameUnits
  obtain ⟨rirq, rhalted, rstopped, rfault, -⟩ := hr
  rw [hdisp] at rhalted rstopped rfault
  exact ⟨fun _ _ _ => by rw [rirq, hime], fun _ => rhalted, fun _ => rstopped, fun _ => rfault, fun h _ _ => hpc h,
    ws, hws.trans hl.symm, hunits⟩

/-- An instruction that only stores and writes registers other than PC. -/
theorem StoresInPlace.effect {i : Instr} {l : List Word} {s t : State} (h : StoresInPlace l s t)
    (hl : storedAddrs i s = l) : Effect i s t :=
  .of_stores h.1 hl fun _ => h.2

/-- A control transfer. -/
theorem Stores.effect {i : Instr} {l : List Word} {s t : State} (h : Stores l s t) (hl : storedAddrs i s = l)
    (hi : isTransfer i = true) : Effect i s t :=
  .of_stores h hl fun hf => absurd (hi.symm.trans hf) nofun

theorem raiseUndefined_effect {i : Instr} (op : Byte) (s : State) (hi : isUndefined i = true)
    (hl : storedAddrs i s = []) : Effect i s (s.raiseUndefined op) :=
  ⟨fun _ _ _ => rfl, fun _ => rfl, fun _ => rfl, fun h => absurd (hi.symm.trans h) nofun,
    fun _ _ h => absurd (hi.symm.trans h) nofun, [], hl.symm, .refl s⟩

theorem halt_effect (op : Byte) (s : State) : Effect .halt s (halt op s) := by
  unfold halt
  split
  · exact ⟨fun _ _ _ => rfl, nofun, fun _ => rfl, fun _ => rfl, nofun, [], rfl, .refl s⟩
  · exact ⟨fun _ _ _ => rfl, nofun, fun _ => rfl, fun _ => rfl, nofun, [], rfl, .refl s⟩

/-- Every instruction answers a next state and changes no more than `Effect` says: by the branches of `storedAddrs`,
`isTransfer` and `isUndefined`; the rows that are in none of them only write registers. -/
theorem exec_effect (i : Instr) (s : State) : ∃ t, exec i s = .next t ∧ Effect i s t := by
  cases i
  case di | ei =>
    exact ⟨_, rfl, nofun, fun _ => rfl, fun _ => rfl, fun _ => rfl, fun _ _ _ => rfl, [], rfl, .refl s⟩
  case reti =>
    exact ⟨_, rfl, nofun, fun _ => rfl, fun _ => rfl, fun _ => rfl, nofun, [], rfl, .refl s⟩
  case stop n =>
    exact ⟨_, rfl, fun _ _ _ => rfl, fun _ => rfl, fun h => absurd rfl (h n), fun _ => rfl, fun _ _ _ => rfl, [], rfl,
      .refl s⟩
  case halt => exact ⟨_, rfl, halt_effect ..⟩
  case undefined_D3 | undefined_DB | undefined_DD | undefined_E3 | undefined_E4 | undefined_EB | undefined_EC
    | undefined_ED | undefined_F4 | undefined_FC | undefined_FD => exact ⟨_, rfl, raiseUndefined_effect _ s rfl rfl⟩
  case jp_a16 | jp_HL | jr_e8 => exact ⟨_, rfl, (jumpTo_stores ..).effect rfl rfl⟩
  case jp_NZ_a16 | jp_Z_a16 | jp_NC_a16 | jp_C_a16 | jr_NZ_e8 | jr_Z_e8 | jr_NC_e8 | jr_C_e8 =>
    exact ⟨_, rfl, (whenCond_silent _ s (jumpTo_stores ..) ..).effect rfl rfl⟩
  case ret => exact ⟨_, rfl, (ret_stores ..).effect rfl rfl⟩
  case ret_NZ | ret_Z | ret_NC | ret_C => exact ⟨_, rfl, (whenCond_silent _ s (ret_stores ..) ..).effect rfl rfl⟩
  case call_a16 | rst_00H | rst_08H | rst_10H | rst_18H | rst_20H | rst_28H | rst_30H | rst_38H =>
    exact ⟨_, rfl, (callTo_stores ..).effect rfl rfl⟩
  case call_NZ_a16 | call_Z_a16 | call_NC_a16 | call_C_a16 =>
    exact ⟨_, rfl, (whenCond_stores _ s (callTo_stores ..) ..).effect rfl rfl⟩
  case ld_mHL_B | ld_mHL_C | ld_mHL_D | ld_mHL_E | ld_mHL_H | ld_mHL_L | ld_mHL_A =>
    exact ⟨_, rfl, (ldMemReg_stores ..).effect rfl⟩
  case ld_mHL_n8 => exact ⟨_, rfl, (ldMemImm_stores ..).effect rfl⟩
  case ld_mHLi_A | ld_mHLd_A => exact ⟨_, rfl, (storeAStep_stores ..).effect rfl⟩
  case ld_mBC_A | ld_mDE_A | ld_ma16_A | ldh_ma8_A | ld_mC_A => exact ⟨_, rfl, (storeA_stores ..).effect rfl⟩
  case ld_ma16_SP => exact ⟨_, rfl, (storeSP_stores ..).effect rfl⟩
  case push_BC | push_DE | push_HL | push_AF => exact ⟨_, rfl, (pushPair_stores ..).effect rfl⟩
  case inc_mHL => exact ⟨_, rfl, (incMem_stores ..).effect rfl⟩
  case dec_mHL => exact ⟨_, rfl, (decMem_stores ..).effect rfl⟩
  case rlc_mHL | rrc_mHL | rl_mHL | rr_mHL | sla_mHL | sra_mHL | swap_mHL | srl_mHL =>
    exact ⟨_, rfl, (cbShift_stores _ s _ .mHL).effect rfl⟩
  case res_0_mHL | res_1_mHL | res_2_mHL | res_3_mHL | res_4_mHL | res_5_mHL | res_6_mHL | res_7_mHL =>
    exact ⟨_, rfl, (cbRes_stores _ s _ .mHL).effect rfl⟩
  case set_0_mHL | set_1_mHL | set_2_mHL | set_3_mHL | set_4_mHL | set_5_mHL | set_6_mHL | set_7_mHL =>
    exact ⟨_, rfl, (cbSet_stores _ s _ .mHL).effect rfl⟩
  case prefix_CB op2 => exact ⟨_, rfl, (runExtended_stores op2 s).effect rfl⟩
  all_goals exact ⟨_, rfl, (by simp : StoresInPlace [] s _).effect rfl⟩

theorem SameUnits.unitFrame {u t : State} (h : SameUnits u t) (l : List Word) : UnitFrame l u t := by
  obtain ⟨hie, hifr, hppu, hbus, hhost, hparams⟩ := h
  simp [UnitFrame, hie, hifr, hppu, hbus, hhost, hparams]

theorem Effect.unitFrame {i : Instr} {s t : State} (h : Effect i s t) : UnitFrame (storedAddrs i s) s t := by
  obtain ⟨ws, hws, hu⟩ := h.stores
  rw [← hws]
  exact (storeAll_unitFrame s ws fun w hw => List.mem_map_of_mem hw).trans (hu.unitFrame _)

theorem effect_of_exec {i : Instr} {s t : State} (h : exec i s = .next t) : Effect i s t := by
  obtain ⟨_, ht, he⟩ := exec_effect i s
  obtain rfl := Host.Outcome.next.inj (ht.symm.trans h)
  exact he

/-- Settles O30: the control clauses by the kind of the instruction, the registers of the units by the addresses its
stores reach. -/
theorem execControlFrame : Obligations.ExecControlFrame := fun _ _ _ h =>
  have he := effect_of_exec h
  ⟨he.ime, he.halted, he.stopped, he.fault, he.pc, he.unitFrame⟩

/-! ## The invariant: bus writes -/

theorem regionOf_wram {a : Word} (h : 0xC000 ≤ a.toNat ∧ a.toNat < 0xE000) : regionOf a = .wram := by
  simp only [regionOf]
  rw [if_neg (by omega), if_neg (by omega), if_neg (by omega), if_pos h.2]

theorem regionOf_oam {a : Word} (h : 0xFE00 ≤ a.toNat ∧ a.toNat < 0xFF00) : regionOf a = .oam := by
  simp only [regionOf]
  rw [if_neg (by omega), if_neg (by omega), if_neg (by omega), if_neg (by omega), if_neg (by omega), if_pos h.2]

/-- An address of storage is a cell key, unless it is an echo of another. -/
theorem isCellKey_toNat {a : Word} (hs : isStorage a = true) (hk : storageKey a = a.toNat) :
    isCellKey a.toNat = true := by
  have hlt : a.toNat < 0x10000 := by have := a.isLt; omega
  rw [isCellKey, BitVec.ofNat_toNat, BitVec.setWidth_eq, hs, hk, decide_eq_true hlt, decide_eq_true rfl]
  rfl

theorem isStorage_of_not_special {a : Word} (h : ∀ r, regionOf a ≠ .special r) : isStorage a = true := by
  unfold isStorage
  split
  · exact absurd ‹_› (h _)
  all_goals rfl

/-- The key of a storage byte is a cell key: an echo's is the working RAM's (R69). -/
theorem isCellKey_storageKey {a : Word} (h : ∀ r, regionOf a ≠ .special r) : isCellKey (storageKey a) = true := by
  rcases storageKey_eq a with ⟨hecho, hk⟩ | hk
  · obtain ⟨b, hb⟩ : ∃ b : Word, b.toNat = a.toNat - 0x2000 := ⟨a - 0x2000, by bv_omega⟩
    have hr : regionOf b = .wram := regionOf_wram (by omega)
    rw [hk, ← hb]
    exact isCellKey_toNat (by simp [isStorage, hr]) (by simp [storageKey, hr])
  · rw [hk]
    exact isCellKey_toNat (isStorage_of_not_special h) hk

theorem isCellKey_oam {i : Nat} (h : i < 160) : isCellKey (0xFE00 + i) = true := by
  have hb : (BitVec.ofNat 16 (0xFE00 + i)).toNat = 0xFE00 + i := by simp; omega
  have hr := regionOf_oam (a := BitVec.ofNat 16 (0xFE00 + i)) (by omega)
  rw [← hb]
  exact isCellKey_toNat (by simp [isStorage, hr]) (by simp [storageKey, hr])

theorem setCell_keys {s : State} (h : ∀ p ∈ s.bus.mem, isCellKey p.1 = true) {k : Nat} (hk : isCellKey k = true)
    (v : Byte) : ∀ p ∈ (s.setCell k v).bus.mem, isCellKey p.1 = true := by
  intro p hp
  rcases Sparse.mem_set hp with hp | rfl
  · exact h p hp
  · exact hk

theorem writeByte_keys {s : State} (h : ∀ p ∈ s.bus.mem, isCellKey p.1 = true) (a : Word) (v : Byte) :
    ∀ p ∈ (s.writeByte a v).bus.mem, isCellKey p.1 = true := by
  rcases writeByte_cases s a v with ⟨-, hw⟩ | ⟨r, -, hw⟩ | ⟨-, hs, hw⟩
  · rwa [hw]
  · rw [hw]
    cases r
    case dma =>
      exact oamDma_induct (P := fun t => ∀ p ∈ t.bus.mem, isCellKey p.1 = true) s v h
        fun t i hi ht => setCell_keys ht (isCellKey_oam hi) _
    all_goals exact h
  · rw [hw]
    exact setCell_keys h (isCellKey_storageKey hs) v

theorem State.Inv.writeByte {s : State} (h : s.Inv) (a : Word) (v : Byte) : (s.writeByte a v).Inv := by
  obtain ⟨hime, hmode, hly, -, hseen, hframe⟩ := writeByte_keeps s a v
  refine ⟨writeByte_wf h.memory a v, writeByte_keys h.keys a v, ?_, ?_, ?_, ?_, ?_, ?_, ?_, ?_, ?_⟩
  · rw [hframe]; exact h.frame
  · rw [writeByte_regs]; exact h.flags
  · rw [hly]; exact h.line
  · rw [hmode, hly]; exact h.blank
  · rw [hseen, writeByte_disp]; exact h.seen
  · rw [hseen, writeByte_disp]; exact h.stoppedSeen
  · rw [hime, writeByte_disp]; exact h.haltedIme
  · rw [writeByte_disp]; exact h.oneWait
  · rw [writeByte_regs, writeByte_disp]; exact h.faultAt

theorem State.Inv.storeAll {s : State} (h : s.Inv) (ws : List (Word × Byte)) : (s.storeAll ws).Inv :=
  storeAll_induct (fun _ a v ht => ht.writeByte a v) h ws

theorem State.Inv.setSP {s : State} (h : s.Inv) (v : Word) : (s.setSP v).Inv := { h with }

theorem State.Inv.push {s : State} (h : s.Inv) (v : Word) : (s.push v).Inv := by
  rw [push_eq]
  exact ((h.writeByte _ _).writeByte _ _).setSP _

/-- PC is free while no fault is recorded. -/
theorem State.Inv.setPC {s : State} (h : s.Inv) (hf : s.disp.fault = none) (v : Word) : (s.setPC v).Inv :=
  { h with faultAt := fun _ _ he => absurd (hf.symm.trans he) nofun }

/-- T is free to grow while the core is not stopped. -/
theorem State.Inv.spend {s : State} (h : s.Inv) (hs : s.disp.stopped = false) (n : Nat) : (s.spend n).Inv :=
  { h with
    seen := Nat.le_add_right_of_le h.seen
    stoppedSeen := fun he => absurd (hs.symm.trans he) nofun }

/-- The waits may end. -/
theorem State.Inv.running {s : State} (h : s.Inv) :
    ({ s with disp.halted := false, disp.stopped := false } : State).Inv :=
  { h with stoppedSeen := nofun, haltedIme := nofun, oneWait := nofun }

/-! ## The invariant: interrupt entry and the video unit -/

theorem State.Inv.takeInterrupt {s : State} (h : s.Inv) (hf : s.disp.fault = none) (i : IntSource) :
    (s.takeInterrupt i).Inv := by
  have h1 : State.Inv { s with
      irq.ifr := s.irq.ifr &&& ~~~((1 : BitVec 5) <<< i.bit), irq.ime := false, disp.halted := false,
      disp.stopped := false, host.draws := s.host.draws + 1 } :=
    { h with stoppedSeen := nofun, haltedIme := nofun, oneWait := nofun }
  exact ((h1.push _).setPC (by rw [push_disp]; exact hf) _).spend (by simp) _

theorem State.Inv.interruptStep {s : State} (h : s.Inv) (hf : s.disp.fault = none) : s.interruptStep.Inv := by
  rcases interruptStep_cases s with hi | ⟨i, -, -, hi⟩
  · rwa [hi]
  · rw [hi]; exact h.takeInterrupt hf i

theorem State.Inv.nextLine {s : State} (h : s.Inv) (hm : s.ppu.mode = .hBlank) : s.nextLine.Inv := by
  have hly : s.ppu.ly.toNat < 144 := Nat.lt_of_not_le fun hb => absurd (hm.symm.trans (h.blank.2 hb)) nofun
  have hnext : (s.ppu.ly + 1).toNat = s.ppu.ly.toNat + 1 := by bv_omega
  have hline : (s.ppu.ly + 1).toNat ≤ 153 := by omega
  unfold State.nextLine
  dsimp only
  split
  case isTrue he =>
    have hb : PpuMode.vBlank = .vBlank ↔ 144 ≤ (s.ppu.ly + 1).toNat := by rw [he]; decide
    split <;> exact { h with line := hline, blank := hb }
  case isFalse he =>
    have hne : (s.ppu.ly + 1).toNat ≠ 144 := fun hn => he (BitVec.eq_of_toNat_eq hn)
    exact { h with line := hline, blank := ⟨nofun, fun hb => by dsimp only at hb; omega⟩ }

theorem State.Inv.nextBlankLine {s : State} (h : s.Inv) (hm : s.ppu.mode = .vBlank) : s.nextBlankLine.Inv := by
  have hly : 144 ≤ s.ppu.ly.toNat := h.blank.1 hm
  unfold State.nextBlankLine
  split
  · exact { h with line := Nat.zero_le _, blank := by simp }
  · have hnext : (s.ppu.ly + 1).toNat = s.ppu.ly.toNat + 1 := by bv_omega
    exact { h with line := by dsimp only; omega, blank := by dsimp only; simp only [hm, hnext, true_iff]; omega }

/-- Every transition keeps the invariant (R326 to R329). -/
theorem State.Inv.transition {s : State} (h : s.Inv) : s.transition.Inv := by
  unfold State.transition
  split
  case h_1 hm => exact { h with blank := ⟨nofun, fun hb => absurd (hm.symm.trans (h.blank.2 hb)) nofun⟩ }
  case h_2 hm =>
    have hly : s.ppu.ly.toNat < 144 := Nat.lt_of_not_le fun hb => absurd (hm.symm.trans (h.blank.2 hb)) nofun
    exact { h with
      frame := Frame.wf_setRow h.frame hly (renderedLine_length _)
      blank := ⟨nofun, fun hb => absurd (hm.symm.trans (h.blank.2 hb)) nofun⟩ }
  case h_3 hm => exact h.nextLine hm
  case h_4 hm => exact h.nextBlankLine hm

/-- In mid-step, before the video unit has taken the ticks, the invariant holds of the state with the ticks taken. -/
theorem ppuStep_inv {s : State} (h : s.consumeTicks.Inv) : s.ppuStep.Inv := by
  rcases ppuStep_cases s with ⟨-, hs⟩ | ⟨-, hs⟩
  · rwa [hs]
  · rw [hs]
    exact State.Inv.transition { h with }

theorem State.Inv.consumeTicks {s : State} (h : s.Inv) : s.consumeTicks.Inv :=
  { h with seen := Nat.le_refl _, stoppedSeen := fun _ => rfl }

theorem finishStep_inv {s : State} (h : s.consumeTicks.Inv) (hf : s.disp.fault = none) : s.finishStep.Inv := by
  obtain ⟨-, hdisp, -⟩ := ppuStep_frame s
  rw [State.finishStep, if_neg (by simp [hf])]
  exact (ppuStep_inv h).interruptStep (by rw [hdisp, hf])

/-! ## The invariant: instructions -/

theorem flagEntry_lowNibble {s : State} (h : s.regs.f &&& 0x0F = 0) (mask : Byte) (x : Option Bool) :
    (s.flagEntry mask x).regs.f &&& 0x0F = 0 := by
  cases x with
  | none => exact h
  | some b => cases b <;> exact and_highNibble_and_lowNibble _

theorem flagLine_lowNibble {s : State} (hf : s.regs.f &&& 0x0F = 0) (z n h c : Option Bool) :
    (s.flagLine z n h c).regs.f &&& 0x0F = 0 :=
  flagEntry_lowNibble (flagEntry_lowNibble (flagEntry_lowNibble (flagEntry_lowNibble hf _ z) _ n) _ h) _ c

theorem applyAlu_lowNibble (o : AluOp) (v : Byte) {s : State} (h : s.regs.f &&& 0x0F = 0) :
    (applyAlu o v s).regs.f &&& 0x0F = 0 :=
  flagLine_lowNibble (by split <;> simpa using h) _ _ _ _

theorem setStackPair_lowNibble {s : State} (h : s.regs.f &&& 0x0F = 0) (p : StackPair) (v : Word) :
    (s.setStackPair p v).regs.f &&& 0x0F = 0 := by
  cases p
  case AF => exact and_highNibble_and_lowNibble _
  all_goals exact h

theorem writeOpnd_regs_f (s : State) (o : Opnd8) (v : Byte) : (s.writeOpnd o v).regs.f = s.regs.f := by
  cases o
  · exact setR_regs_f ..
  · exact congrArg Regs.f (writeByte_regs ..)

theorem whenCond_lowNibble {s : State} {taken : State → State} (h : s.regs.f &&& 0x0F = 0)
    (ht : (taken s).regs.f &&& 0x0F = 0) (c : Cond) (extra : Nat) (op : Byte) :
    (whenCond c extra taken op s).regs.f &&& 0x0F = 0 := by
  unfold whenCond
  split
  · exact ht
  · exact h

/-- Every instruction keeps the low nibble of F clear (R32). -/
theorem operation_lowNibble {s t : State} (h : Operation s t) (hf : s.regs.f &&& 0x0F = 0) :
    t.regs.f &&& 0x0F = 0 := by
  cases h
  case popPair p => exact setStackPair_lowNibble (by exact hf) p _
  case aluReg | aluMem | aluImm => exact applyAlu_lowNibble _ _ hf
  case halt =>
    unfold halt
    split <;> exact hf
  case incReg | decReg | incMem | decMem | decimalAdjust | complementA | setCarry | complementCarry | addHLPair | addSPImm
    | ldHLSP | rotateA | cbShift | cbBit =>
    exact flagLine_lowNibble (by simpa [State.writeHL, writeOpnd_regs_f] using hf) _ _ _ _
  case cbRes | cbSet => exact (congrArg (· &&& 0x0F) (writeOpnd_regs_f ..)).trans hf
  case jumpCond | jumpRelCond | retCond => exact whenCond_lowNibble hf (by exact hf) ..
  case callCond => exact whenCond_lowNibble hf (by simpa [callTo, State.spendBase] using hf) ..
  all_goals simpa [ldRegReg, ldRegImm, ldRegMem, ldMemReg, ldMemImm, loadA, storeA, loadAStep, storeAStep, ldPairImm,
    storeSP, ldSPHL, pushPair, incPair, decPair, jumpTo, callTo, ret, retInterrupt, nop, stopCore, setIme,
    State.raiseUndefined, State.spendBase, State.writeHL, State.dropTop, State.returnFromInterrupt] using hf

/-- An undefined row records its opcode (R306). -/
theorem exec_undefined {i : Instr} (h : isUndefined i = true) (s : State) :
    ∃ op ∈ undefinedOps, exec i s = .next (s.raiseUndefined op) := by
  cases i
  case undefined_D3 | undefined_DB | undefined_DD | undefined_E3 | undefined_E4 | undefined_EB | undefined_EC
    | undefined_ED | undefined_F4 | undefined_FC | undefined_FD => exact ⟨_, by decide, rfl⟩
  all_goals cases h

theorem State.Inv.raiseUndefined {s : State} (h : s.Inv) {op : Byte} (hop : op ∈ undefinedOps) :
    (s.raiseUndefined op).Inv :=
  { h with
    faultAt := fun op' a he => by
      obtain ⟨rfl, rfl⟩ : op = op' ∧ s.regs.pc - 1 = a := by simpa [State.raiseUndefined] using he
      exact ⟨hop, rfl⟩ }

/-- HALT waits only under IME (R301). -/
theorem halt_ime (op : Byte) {s : State} (hw : s.disp.halted = false) (h : (halt op s).disp.halted = true) :
    (halt op s).irq.ime = true := by
  unfold halt at h ⊢
  split at h
  case isTrue hime => rw [if_pos hime]; exact hime
  case isFalse => exact absurd (hw.symm.trans h) nofun

/-- A running core enters at most one wait, and a halt only under IME (R301, R302). -/
theorem exec_waits {i : Instr} {s t : State} (hhalted : s.disp.halted = false) (hstopped : s.disp.stopped = false)
    (h : exec i s = .next t) :
    (t.disp.halted = true → t.irq.ime = true) ∧ ¬(t.disp.halted = true ∧ t.disp.stopped = true) := by
  have he := effect_of_exec h
  by_cases hi : i = .halt
  · subst hi
    obtain rfl : halt 0x76 s = t := Host.Outcome.next.inj h
    have hs : (halt 0x76 s).disp.stopped = false := (he.stopped nofun).trans hstopped
    exact ⟨halt_ime 0x76 hhalted, fun hw => absurd (hs.symm.trans hw.2) nofun⟩
  · have ht : t.disp.halted = false := (he.halted hi).trans hhalted
    exact ⟨fun hw => absurd (ht.symm.trans hw) nofun, fun hw => absurd (ht.symm.trans hw.1) nofun⟩

/-- A running core that executes a defined instruction records no fault and meets the invariant in mid-step. -/
theorem exec_inv {i : Instr} {s t : State} (h : s.Inv) (hhalted : s.disp.halted = false)
    (hstopped : s.disp.stopped = false) (hf : s.disp.fault = none) (hi : isUndefined i = false)
    (he : exec i s = .next t) : t.consumeTicks.Inv ∧ t.disp.fault = none := by
  have heff := effect_of_exec he
  have hfault : t.disp.fault = none := (heff.fault hi).trans hf
  obtain ⟨ws, -, -, -, hppu, hbus, -, -⟩ := heff.stores
  have hw : (s.storeAll ws).Inv := h.storeAll ws
  obtain ⟨hime, hone⟩ := exec_waits hhalted hstopped he
  have hlow : t.regs.f &&& 0x0F = 0 := by
    obtain ⟨_, ht, hop⟩ := exec_operation i s
    obtain rfl := Host.Outcome.next.inj (ht.symm.trans he)
    exact operation_lowNibble hop h.flags
  refine ⟨?_, hfault⟩
  exact {
    memory := show t.bus.mem.wf from hbus ▸ hw.memory
    keys := show ∀ p ∈ t.bus.mem, _ from hbus ▸ hw.keys
    frame := show t.ppu.frame.wf from hppu ▸ hw.frame
    flags := hlow
    line := show t.ppu.ly.toNat ≤ 153 from hppu ▸ hw.line
    blank := show t.ppu.mode = .vBlank ↔ 144 ≤ t.ppu.ly.toNat from hppu ▸ hw.blank
    seen := Nat.le_refl _
    stoppedSeen := fun _ => rfl
    haltedIme := hime
    oneWait := hone
    faultAt := fun _ _ hr => absurd (hfault.symm.trans hr) nofun }

/-! ## The invariant: the core step -/

theorem State.Inv.afterFetch {s : State} (h : s.Inv) (hf : s.disp.fault = none) (n : Nat) : (s.afterFetch n).Inv :=
  (h.setPC hf _).withHost _

/-- A running core that fetches and executes, then ends the step: an undefined opcode stops it there. -/
theorem executeNext_finishStep_inv {s t : State} (h : s.Inv) (hhalted : s.disp.halted = false)
    (hstopped : s.disp.stopped = false) (hf : s.disp.fault = none) (he : s.executeNext = .next t) :
    t.finishStep.Inv := by
  have hfetch := h.afterFetch hf (opLength (s.fetchByte 0)).toNat
  cases hi : isUndefined s.fetchInstr
  · obtain ⟨ht, hft⟩ := exec_inv hfetch hhalted hstopped hf hi he
    exact finishStep_inv ht hft
  · obtain ⟨op, hop, hx⟩ := exec_undefined hi (s.afterFetch (opLength (s.fetchByte 0)).toNat)
    obtain rfl := Host.Outcome.next.inj (hx.symm.trans he)
    exact hfetch.raiseUndefined hop

theorem step_inv {s t : State} (h : s.Inv) (hs : step s = .next t) : t.Inv := by
  rcases step_cases s with ⟨-, hc⟩ | ⟨hf, -, -, hc⟩ | ⟨hf, hstopped, -, -, hc⟩ | ⟨hf, -, hc⟩
  · obtain rfl := Host.Outcome.next.inj (hc.symm.trans hs)
    exact h
  all_goals have hnone : s.disp.fault = none := by simpa using hf
  · obtain rfl := Host.Outcome.next.inj (hc.symm.trans hs)
    exact finishStep_inv h.consumeTicks hnone
  · obtain rfl := Host.Outcome.next.inj (hc.symm.trans hs)
    exact finishStep_inv (h.spend hstopped _).consumeTicks hnone
  · obtain ⟨u, hu⟩ := executeNext_completes { s with disp.halted := false, disp.stopped := false }
    rw [hu] at hc
    obtain rfl : u.finishStep = t := Host.Outcome.next.inj (hc.symm.trans hs)
    exact executeNext_finishStep_inv h.running rfl rfl hnone hu

/-- Settles O36: an idle step by its ticks, a running one through the instruction, then the video unit and the interrupt
controller; a recorded fault ends the step. -/
theorem stepKeepsInv : Obligations.StepKeepsInv := fun _ _ => step_inv

end Sys2Proof.Machine

/-! PROOFS. The statements of 20_memory.md: what a bus write changes and what it leaves, the OAM copy, the special
registers and the joypad, words and the stack, the tile cache, and the bytes that an instruction and a step leave. -/

namespace Sys2Proof.Machine

/-! ## Cells: a write leaves the other keys -/

section

variable {α : Type} {dflt : Nat → α} [DecidableEq α]

theorem Sparse.get_put_of_ne {k j : Nat} (h : j ≠ k) (v : α) (rest : List (Nat × α)) :
    Sparse.get dflt (Sparse.put dflt k v rest) j = Sparse.get dflt rest j := by
  unfold Sparse.put
  split
  · rfl
  · exact if_neg h

/-- A read of another key needs no canonical form: that the list is sorted matters to the written key alone. -/
theorem Sparse.get_set_of_ne {k j : Nat} (h : j ≠ k) (v : α) (m : List (Nat × α)) :
    Sparse.get dflt (Sparse.set dflt m k v) j = Sparse.get dflt m j := by
  induction m with
  | nil => exact Sparse.get_put_of_ne h v []
  | cons p rest ih =>
    unfold Sparse.set
    split
    · exact Sparse.get_put_of_ne h v _
    · split
      · subst_vars
        exact (Sparse.get_put_of_ne h v rest).trans (if_neg h).symm
      · simp only [Sparse.get, ih]

end

theorem cell_setCell_of_ne (s : State) {k j : Nat} (h : j ≠ k) (v : Byte) : (s.setCell k v).cell j = s.cell j :=
  Sparse.get_set_of_ne h v s.bus.mem

theorem cell_setCell {s : State} (hw : s.bus.mem.wf) (k : Nat) (v : Byte) (j : Nat) :
    (s.setCell k v).cell j = if j = k then v else s.cell j := Memory.read_write hw k v j

/-- The OAM copy stores under the keys of OAM alone (R74). -/
theorem oamDma_cell (s : State) (v : Byte) {j : Nat} (h : ¬(0xFE00 ≤ j ∧ j < 0xFEA0)) :
    (s.oamDma v).cell j = s.cell j :=
  oamDma_induct (P := fun t => t.cell j = s.cell j) s v rfl fun t _ _ ht =>
    (cell_setCell_of_ne t (by omega) _).trans ht

/-- Of the special registers only DMA stores anything under a key. -/
theorem writeSpecial_cell (s : State) {r : Special} (v : Byte) {j : Nat}
    (h : r = .dma → ¬(0xFE00 ≤ j ∧ j < 0xFEA0)) : (s.writeSpecial r v).cell j = s.cell j := by
  cases r
  case dma => exact oamDma_cell s v (h rfl)
  all_goals rfl

/-! ## Bytes that a run of stores does not reach -/

theorem reached_eq_false {l : List Word} {b : Word} : reached l b = false ↔
    (∀ a ∈ l, storageKey a ≠ storageKey b) ∧ (0xFF46 ∈ l → ¬(0xFE00 ≤ b.toNat ∧ b.toNat < 0xFEA0)) := by
  simp [reached]

theorem reached_singleton_of_mem {l : List Word} {a b : Word} (h : reached l b = false) (ha : a ∈ l) :
    reached [a] b = false := by
  obtain ⟨hkey, hoam⟩ := reached_eq_false.1 h
  exact reached_eq_false.2 ⟨List.forall_mem_singleton.2 (hkey a ha), fun hm => hoam (List.mem_singleton.1 hm ▸ ha)⟩

/-- The keys of the 160 bytes of OAM are their addresses: no echo is one of them. -/
theorem storageKey_oam {b : Word} (h : ¬(0xFE00 ≤ b.toNat ∧ b.toNat < 0xFEA0)) :
    ¬(0xFE00 ≤ storageKey b ∧ storageKey b < 0xFEA0) := by
  rcases storageKey_eq b with ⟨hecho, hk⟩ | hk <;> omega

theorem writeByte_cell_of_not_reached (s : State) {a b : Word} (v : Byte) (h : reached [a] b = false) :
    (s.writeByte a v).cell (storageKey b) = s.cell (storageKey b) := by
  obtain ⟨hkey, hoam⟩ := reached_eq_false.1 h
  rcases writeByte_cases s a v with ⟨-, hw⟩ | ⟨r, hr, hw⟩ | ⟨-, -, hw⟩
  · rw [hw]
  · rw [hw]
    obtain rfl := eq_addr_of_special hr
    exact writeSpecial_cell s v fun hdma => storageKey_oam (hoam (by simp [hdma, Special.addr]))
  · rw [hw]
    exact cell_setCell_of_ne s (hkey a (by simp)).symm v

theorem storeAll_cell_of_not_reached (s : State) {ws : List (Word × Byte)} {b : Word}
    (h : ∀ w ∈ ws, reached [w.1] b = false) : (s.storeAll ws).cell (storageKey b) = s.cell (storageKey b) := by
  induction ws generalizing s with
  | nil => rfl
  | cons w ws ih =>
    rw [storeAll_cons, ih _ fun x hx => h x (by simp [hx]), writeByte_cell_of_not_reached s w.2 (h w (by simp))]

/-- A read is that of a special register or of a cell (R61). -/
theorem readByte_of_parts {s t : State} {k : Access} {a : Word}
    (hs : ∀ r, regionOf a = .special r → t.readSpecial k r = s.readSpecial k r)
    (hc : t.cell (storageKey a) = s.cell (storageKey a)) : t.readByte k a = s.readByte k a := by
  unfold State.readByte
  split
  case h_1 r hr => exact hs r hr
  all_goals exact hc

/-- A special register is read from fields that `UnitFrame` holds fixed while its address is not stored to. -/
theorem UnitFrame.readSpecial {l : List Word} {s t : State} (h : UnitFrame l s t) (k : Access) {r : Special}
    (hr : r.addr ∉ l) : t.readSpecial k r = s.readSpecial k r := by
  obtain ⟨hifr, hie, hjoysel, hdma, hlcdc, hscy, hscx, hbgp, hobp0, hobp1, -, hly, -, -, -, hhost, -⟩ := h
  cases r <;> simp_all [State.readSpecial, State.sampleButtons, Special.addr]

/-- A byte that no store of `l` reaches reads as before where its register and its cell do. -/
theorem UnitFrame.readByte {l : List Word} {s t : State} (h : UnitFrame l s t) (k : Access) {b : Word}
    (hl : reached l b = false) (hc : t.cell (storageKey b) = s.cell (storageKey b)) :
    t.readByte k b = s.readByte k b := by
  refine readByte_of_parts (fun r hr => h.readSpecial k ?_) hc
  rw [← eq_addr_of_special hr]
  exact fun hm => (reached_eq_false.1 hl).1 b hm rfl

theorem writeByte_readByte_of_not_reached (s : State) (k : Access) {a b : Word} (v : Byte)
    (h : reached [a] b = false) : (s.writeByte a v).readByte k b = s.readByte k b :=
  (writeByte_unitFrame (by simp) s v).readByte k h (writeByte_cell_of_not_reached s v h)

/-- Settles O12: the fields no write touches, and the byte it does not reach. -/
theorem busWriteFrame : Obligations.BusWriteFrame := by
  intro s k a b v
  obtain ⟨hime, hmode, hly, hacc, hseen, hframe⟩ := writeByte_keeps s a v
  exact ⟨writeByte_regs s a v, hime, writeByte_disp s a v, writeByte_host s a v, writeByte_params s a v, hmode, hly,
    hacc, hseen, hframe, writeByte_readByte_of_not_reached s k v⟩

/-- Settles O29: an instruction is bus writes to `storedAddrs` and a change of registers, and none of the writes reaches
the byte. -/
theorem execStoresOnly : Obligations.ExecStoresOnly := by
  intro i s t k a h hl
  have heff := effect_of_exec h
  obtain ⟨ws, hws, -, -, -, hbus, -, -⟩ := heff.stores
  refine heff.unitFrame.readByte k hl ?_
  calc t.cell (storageKey a)
      = (s.storeAll ws).cell (storageKey a) := by rw [State.cell, hbus, State.cell]
    _ = s.cell (storageKey a) := storeAll_cell_of_not_reached s fun w hw =>
        reached_singleton_of_mem hl (hws ▸ List.mem_map_of_mem hw)

/-! ## ROM -/

theorem regionOf_rom {a : Word} (h : a.toNat < 0x8000) : regionOf a = .rom := by simp [regionOf, h]

theorem storageKey_ge_of_not_rom {a : Word} (h : regionOf a ≠ .rom) : 0x8000 ≤ storageKey a := by
  have ha : 0x8000 ≤ a.toNat := Nat.le_of_not_lt fun hlt => h (regionOf_rom hlt)
  rcases storageKey_eq a with ⟨hecho, hk⟩ | hk <;> omega

/-- From `s` to `t` no byte of ROM changes (R62). -/
def KeepsRom (s t : State) : Prop := ∀ j, j < 0x8000 → t.cell j = s.cell j

theorem KeepsRom.of_bus {s t u : State} (h : KeepsRom s t) (hb : u.bus = t.bus) : KeepsRom s u := by
  intro j hj
  rw [State.cell, hb]
  exact h j hj

theorem KeepsRom.writeByte {s t : State} (h : KeepsRom s t) (a : Word) (v : Byte) : KeepsRom s (t.writeByte a v) := by
  intro j hj
  rw [← h j hj]
  rcases writeByte_cases t a v with ⟨-, hw⟩ | ⟨r, -, hw⟩ | ⟨hrom, -, hw⟩
  · rw [hw]
  · rw [hw]
    exact writeSpecial_cell t v fun _ => by omega
  · rw [hw]
    have := storageKey_ge_of_not_rom hrom
    exact cell_setCell_of_ne t (by omega) v

theorem KeepsRom.storeAll {s t : State} (h : KeepsRom s t) (ws : List (Word × Byte)) : KeepsRom s (t.storeAll ws) :=
  storeAll_induct (fun _ a v hu => hu.writeByte a v) h ws

theorem KeepsRom.exec {s t u : State} (h : KeepsRom s t) {i : Instr} (he : exec i t = .next u) : KeepsRom s u := by
  obtain ⟨ws, -, -, -, -, hbus, -, -⟩ := (effect_of_exec he).stores
  exact (h.storeAll ws).of_bus hbus

theorem KeepsRom.executeNext {s t u : State} (h : KeepsRom s t) (he : t.executeNext = .next u) : KeepsRom s u :=
  (h.of_bus (u := t.afterFetch _) rfl).exec he

theorem KeepsRom.takeInterrupt {s t : State} (h : KeepsRom s t) (i : IntSource) : KeepsRom s (t.takeInterrupt i) := by
  unfold State.takeInterrupt
  dsimp only
  rw [push_eq]
  exact KeepsRom.writeByte (KeepsRom.writeByte (by exact h) _ _) _ _

theorem KeepsRom.finishStep {s t : State} (h : KeepsRom s t) : KeepsRom s t.finishStep := by
  obtain ⟨-, -, hbus, -⟩ := ppuStep_frame t
  have hppu : KeepsRom s t.ppuStep := h.of_bus hbus
  unfold State.finishStep
  split
  · exact h
  · rcases interruptStep_cases t.ppuStep with hi | ⟨i, -, -, hi⟩
    · rwa [hi]
    · rw [hi]
      exact hppu.takeInterrupt i

theorem step_keepsRom {s t : State} (h : step s = .next t) : KeepsRom s t := by
  have hrefl : KeepsRom s s := fun _ _ => rfl
  rcases step_cases s with ⟨-, hs⟩ | ⟨-, -, -, hs⟩ | ⟨-, -, -, -, hs⟩ | ⟨-, -, hs⟩
  · obtain rfl := Host.Outcome.next.inj (hs.symm.trans h)
    exact hrefl
  · obtain rfl := Host.Outcome.next.inj (hs.symm.trans h)
    exact hrefl.finishStep
  · obtain rfl := Host.Outcome.next.inj (hs.symm.trans h)
    exact KeepsRom.finishStep (hrefl.of_bus rfl)
  · obtain ⟨u, hu⟩ := executeNext_completes { s with disp.halted := false, disp.stopped := false }
    rw [hu] at hs
    obtain rfl : u.finishStep = t := Host.Outcome.next.inj (hs.symm.trans h)
    have hwake : KeepsRom s { s with disp.halted := false, disp.stopped := false } := hrefl
    exact (hwake.executeNext hu).finishStep

/-- Settles O32: no bus write stores under a key of ROM, and a step stores only by bus writes. -/
theorem romNeverChanges : Obligations.RomNeverChanges := by
  intro s t k a h ha
  have hr := regionOf_rom ha
  rw [readByte_storage k (by simp [hr]), readByte_storage k (by simp [hr])]
  exact step_keepsRom h _ (by simpa [storageKey, hr] using ha)

/-! ## RAM -/

theorem isRam_spec {a : Word} (h : isRam a = true) : regionOf a ≠ .rom ∧ ∀ r, regionOf a ≠ .special r := by
  unfold isRam at h
  split at h <;> simp_all

/-- A write to RAM stores one byte, under the key of the address. -/
theorem writeByte_ram {a : Word} (h : isRam a = true) (s : State) (v : Byte) :
    s.writeByte a v = s.setCell (storageKey a) v := by
  obtain ⟨hrom, hs⟩ := isRam_spec h
  rcases writeByte_cases s a v with ⟨hr, -⟩ | ⟨r, hr, -⟩ | ⟨-, -, hw⟩
  · exact absurd hr hrom
  · exact absurd hr (hs r)
  · exact hw

theorem readByte_writeByte_ram {s : State} (hw : s.bus.mem.wf) {a : Word} (h : isRam a = true) (k : Access) (b : Word)
    (v : Byte) : (s.writeByte a v).readByte k b = if storageKey b = storageKey a then v else s.readByte k b := by
  rw [writeByte_ram h]
  exact place_read hw k a b v (isStorage_of_not_special (isRam_spec h).2)

/-- Settles O9: a write to RAM places one byte. -/
theorem storageReadBack : Obligations.StorageReadBack := fun _ k _ b v hw h => readByte_writeByte_ram hw h k b v

/-! ## The echo -/

theorem regionOf_echo {a : Word} (h : 0xE000 ≤ a.toNat ∧ a.toNat < 0xFE00) : regionOf a = .echo := by
  simp only [regionOf]
  rw [if_neg (by omega), if_neg (by omega), if_neg (by omega), if_neg (by omega), if_pos h.2]

/-- Settles O10: the two addresses are RAM and have one key. -/
theorem echoMirror : Obligations.EchoMirror := by
  intro s k a x hw hlo hhi
  have hval : (a + 0x2000).toNat = a.toNat + 0x2000 := by bv_omega
  have hwram : regionOf a = .wram := regionOf_wram (by omega)
  have hecho : regionOf (a + 0x2000) = .echo := regionOf_echo (by omega)
  have hram : isRam a = true := by simp only [isRam, hwram]
  have hram' : isRam (a + 0x2000) = true := by simp only [isRam, hecho]
  have hkey : storageKey (a + 0x2000) = storageKey a := by
    simp only [storageKey, hwram, hecho]
    omega
  refine ⟨?_, ?_, ?_, ?_⟩
  · rw [readByte_writeByte_ram hw hram, if_pos hkey]
  · rw [readByte_writeByte_ram hw hram', if_pos hkey.symm]
  · rw [readByte_storage k (isRam_spec hram').2, readByte_storage k (isRam_spec hram).2, hkey]
  · rw [writeByte_ram hram', writeByte_ram hram, hkey]

/-! ## The special registers -/

theorem regionOf_addr (r : Special) : regionOf r.addr = .special r := by cases r <;> decide

/-- No other address names the byte of a special register. -/
theorem eq_addr_of_storageKey {a : Word} {r : Special} (h : storageKey r.addr = storageKey a) : a = r.addr := by
  have hkey : storageKey r.addr = r.addr.toNat := by simp only [storageKey, regionOf_addr]
  have hhigh : 0xFF00 ≤ r.addr.toNat := by cases r <;> decide
  apply BitVec.eq_of_toNat_eq
  rcases storageKey_eq a with ⟨hecho, hk⟩ | hk <;> omega

theorem writeByte_addr (s : State) (r : Special) (v : Byte) : s.writeByte r.addr v = s.writeSpecial r v := by
  simp only [State.writeByte, regionOf_addr]

theorem readByte_addr (s : State) (k : Access) (r : Special) : s.readByte k r.addr = s.readSpecial k r := by
  simp only [State.readByte, regionOf_addr]

theorem writeByte_rom {a : Word} (h : a.toNat < 0x8000) (s : State) (v : Byte) : s.writeByte a v = s := by
  simp only [State.writeByte, regionOf_rom h]

theorem writeByte_intFlag (s : State) (v : Byte) :
    s.writeByte 0xFF0F v = { s with irq.ifr := v.extractLsb' 0 5 } := by
  rw [← BitVec.setWidth_eq_extractLsb' (by decide)]; exact writeByte_addr s .intFlag v

theorem writeByte_intEnable (s : State) (v : Byte) :
    s.writeByte 0xFFFF v = { s with irq.ie := v.extractLsb' 0 5 } := by
  rw [← BitVec.setWidth_eq_extractLsb' (by decide)]; exact writeByte_addr s .intEnable v

theorem readByte_intFlag (s : State) (k : Access) : s.readByte k 0xFF0F = 0#3 ++ s.irq.ifr :=
  (readByte_addr s k .intFlag).trans (BitVec.setWidth_eq_append (by decide))

theorem readByte_intEnable (s : State) (k : Access) : s.readByte k 0xFFFF = 0#3 ++ s.irq.ie :=
  (readByte_addr s k .intEnable).trans (BitVec.setWidth_eq_append (by decide))

/-- Settles O11: each address is that of its register. -/
theorem busRegisters : Obligations.BusRegisters := fun s k _ v =>
  ⟨fun h => writeByte_rom h s v, writeByte_addr s .ly v, readByte_addr s k .ly, writeByte_intFlag s v,
    readByte_intFlag s k, writeByte_intEnable s v, readByte_intEnable s k, writeByte_addr s .lcdc v,
    readByte_addr s k .lcdc, writeByte_addr s .scy v, readByte_addr s k .scy, writeByte_addr s .scx v,
    readByte_addr s k .scx, writeByte_addr s .bgp v, readByte_addr s k .bgp, writeByte_addr s .obp0 v,
    readByte_addr s k .obp0, writeByte_addr s .obp1 v, readByte_addr s k .obp1, readByte_addr s k .dma,
    writeByte_addr s .p1 v⟩

/-! ## The joypad -/

/-- The low nibble active low, under a high nibble `hi`. -/
theorem or_not_nibble (hi : BitVec 4) (b0 b1 b2 b3 : Bool) : (hi ++ 0#4) ||| (~~~(nibble b0 b1 b2 b3) &&& 0x0F) =
    hi ++ BitVec.ofBool (!b3) ++ BitVec.ofBool (!b2) ++ BitVec.ofBool (!b1) ++ BitVec.ofBool (!b0) := by
  revert hi b0 b1 b2 b3; decide

/-- Settles O14: the register's value by the four latch values. -/
theorem joypadRead : Obligations.JoypadRead := by
  rintro s k b rfl
  have hread : s.readByte k 0xFF00 = joypadByte s.bus.joysel (s.sampleButtons k) := readByte_addr s k .p1
  rw [hread]
  refine ⟨fun h => ?_, fun h => ?_, fun h => ?_, fun h => ?_, fun b h => ?_⟩
  · rw [h]; exact or_not_nibble 0xE _ _ _ _
  · rw [h]; exact or_not_nibble 0xD _ _ _ _
  · rw [h]; rfl
  · rw [h]; rfl
  · rw [State.sampleButtons, h]

/-! ## The OAM copy -/

/-- The address of source byte `i` of a copy from page `v` (R74). -/
theorem dmaSource_toNat (v : Byte) {i : Nat} (h : i < 160) :
    (cat v 0 + BitVec.ofNat 16 i).toNat = v.toNat * 256 + i := by
  have hcat : (cat v 0).toNat = v.toNat * 256 := by
    rw [cat, BitVec.toNat_append]; simp [Nat.shiftLeft_eq]
  have := v.isLt
  rw [BitVec.toNat_add, hcat, BitVec.toNat_ofNat]
  omega

/-- The copy reads no byte it has written before: from page 0xFE each byte is copied onto itself, and no other page
meets OAM. -/
theorem dmaSource_not_copied (v : Byte) {i : Nat} (h : i < 160) :
    ¬(0xFE00 ≤ storageKey (cat v 0 + BitVec.ofNat 16 i) ∧ storageKey (cat v 0 + BitVec.ofNat 16 i) < 0xFE00 + i) := by
  have ha := dmaSource_toNat v h
  rcases storageKey_eq (cat v 0 + BitVec.ofNat 16 i) with ⟨hecho, hk⟩ | hk <;> omega

/-- After `n` bytes of the copy from page `v` into the memory of `s`, whose DMA register is written already, the first `n`
bytes of OAM hold what their sources read in `s`, and nothing else has changed. -/
structure Copied (v : Byte) (s : State) (n : Nat) (t : State) : Prop where
  frame : t = { s with bus.mem := t.bus.mem }
  wf : t.bus.mem.wf
  oam : ∀ i, i < n → t.oam i = s.readByte .dma (cat v 0 + BitVec.ofNat 16 i)
  rest : ∀ j, ¬(0xFE00 ≤ j ∧ j < 0xFE00 + n) → t.cell j = s.cell j

/-- A register and a byte not yet copied read as they did before the copy. -/
theorem Copied.readByte {v : Byte} {s t : State} {n : Nat} (h : Copied v s n t) (k : Access) {a : Word}
    (ha : ¬(0xFE00 ≤ storageKey a ∧ storageKey a < 0xFE00 + n)) : t.readByte k a = s.readByte k a := by
  refine readByte_of_parts (fun r _ => ?_) (h.rest _ ha)
  rw [h.frame]
  cases r <;> rfl

theorem Copied.step {v : Byte} {s t : State} {n : Nat} (h : Copied v s n t) (hn : n < 160) :
    Copied v s (n + 1) (dmaByte v t n) := by
  have hcell (j : Nat) : (dmaByte v t n).cell j =
      if j = 0xFE00 + n then s.readByte .dma (cat v 0 + BitVec.ofNat 16 n) else t.cell j := by
    rw [dmaByte, cell_setCell h.wf, h.readByte .dma (dmaSource_not_copied v hn)]
  refine ⟨?_, setCell_wf h.wf (by omega) _, fun i hi => ?_, fun j hj => ?_⟩
  · rw [dmaByte, State.setCell, h.frame]
  · rw [State.oam, hcell]
    split
    · rw [show i = n by omega]
    · exact h.oam i (by omega)
  · rw [hcell, if_neg (by omega), h.rest j (by omega)]

theorem copied_foldl (v : Byte) {s : State} (hw : s.bus.mem.wf) {n : Nat} (hn : n ≤ 160) :
    Copied v s n ((List.range n).foldl (dmaByte v) s) := by
  induction n with
  | zero => exact ⟨rfl, hw, nofun, fun _ _ => rfl⟩
  | succ n ih =>
    rw [List.range_succ, List.foldl_append]
    exact (ih (by omega)).step (by omega)

/-- Settles O13: 160 bytes of the copy, by induction on their number. -/
theorem oamDmaCopy : Obligations.OamDmaCopy := by
  intro s v hw
  have hcopy : Copied v { s with bus.dma := v } 160 (s.writeByte 0xFF46 v) :=
    (writeByte_addr s .dma v).symm ▸ copied_foldl v (by exact hw) (Nat.le_refl _)
  refine ⟨congrArg (fun t => t.bus.dma) hcopy.frame, hcopy.oam, fun k a hne hoam => ?_, hcopy.frame⟩
  exact writeByte_readByte_of_not_reached s k v (reached_eq_false.2
    ⟨List.forall_mem_singleton.2 fun hkey => hne (eq_addr_of_storageKey (r := .dma) hkey), fun _ => hoam⟩)

/-! ## Words and the stack -/

/-- A word written to RAM reads back, each byte at its own address (R80). -/
theorem readByte_writeShort_ram {s : State} (hw : s.bus.mem.wf) {a : Word} (hlo : isRam a = true)
    (hhi : isRam (a + 1) = true) (k : Access) (v : Word) :
    (s.writeShort a v).readByte k a = loByte v ∧ (s.writeShort a v).readByte k (a + 1) = hiByte v := by
  obtain ⟨hne, -⟩ := storageKey_next_ne a
  have hw' := writeByte_wf hw a (loByte v)
  rw [State.writeShort, readByte_writeByte_ram hw' hhi, readByte_writeByte_ram hw' hhi, if_neg hne, if_pos rfl,
    readByte_writeByte_ram hw hlo, if_pos rfl]
  exact ⟨rfl, rfl⟩

theorem readShort_writeShort_ram {s : State} (hw : s.bus.mem.wf) {a : Word} (hlo : isRam a = true)
    (hhi : isRam (a + 1) = true) (k : Access) (v : Word) : (s.writeShort a v).readShort k a = v := by
  obtain ⟨hl, hh⟩ := readByte_writeShort_ram hw hlo hhi k v
  rw [State.readShort, hl, hh, cat_hiByte_loByte]

theorem readShort_setSP (s : State) (x : Word) (k : Access) (a : Word) :
    (s.setSP x).readShort k a = s.readShort k a := by
  have h (b : Word) : (s.setSP x).readByte k b = s.readByte k b := readByte_congr k b rfl rfl rfl rfl
  rw [State.readShort, h, h, State.readShort]

theorem push_sp (s : State) (v : Word) : (s.push v).regs.sp = s.regs.sp - 2 := by rw [push_regs]

theorem push_top {s : State} (hw : s.bus.mem.wf) (hlo : isRam (s.regs.sp - 2) = true)
    (hhi : isRam (s.regs.sp - 2 + 1) = true) (v : Word) : (s.push v).top = v := by
  rw [State.top, push_sp, push_eq, readShort_setSP, readShort_writeShort_ram hw hlo hhi]

theorem push_dropTop_sp (s : State) (v : Word) : (s.push v).dropTop.regs.sp = s.regs.sp := by
  rw [State.dropTop, setSP_regs_sp, push_sp, BitVec.sub_add_cancel]

/-- Settles O15: a push is a word written at SP - 2. -/
theorem wordsAndStack : Obligations.WordsAndStack := by
  intro s a v hw
  refine ⟨fun hlo hhi => ?_, fun hlo hhi => ?_⟩
  · obtain ⟨hl, hh⟩ := readByte_writeShort_ram hw hlo hhi .data v
    exact ⟨hl, hh, readShort_writeShort_ram hw hlo hhi .data v⟩
  · have hnext : s.regs.sp - 1 = s.regs.sp - 2 + 1 := by bv_omega
    exact ⟨push_sp s v, push_top hw hlo (hnext ▸ hhi) v, push_dropTop_sp s v⟩

/-! ## The tile cache -/

theorem regionOf_vram {a : Word} (h : 0x8000 ≤ a.toNat ∧ a.toNat < 0xA000) : regionOf a = .vram := by
  simp only [regionOf]
  rw [if_neg (by omega), if_pos h.2]

theorem vram_writeByte {s : State} (hw : s.bus.mem.wf) {a : Word} (h : 0x8000 ≤ a.toNat ∧ a.toNat < 0xA000) (v : Byte)
    (o : Nat) : (s.writeByte a v).vram o = if o = a.toNat - 0x8000 then v else s.vram o := by
  have hr := regionOf_vram h
  have hkey : storageKey a = a.toNat := by simp [storageKey, hr]
  rw [writeByte_ram (by simp [isRam, hr]), hkey, State.vram, cell_setCell hw]
  exact if_congr (by omega) rfl rfl

section

variable {s t : State} {o : Nat} {v : Byte} (h : ∀ j, t.vram j = if j = o then v else s.vram j)
include h

/-- The row of a written byte has the byte itself on one plane and its partner on the other (R66, R67). -/
theorem tileDecode_written_row (x : Nat) : t.tileDecode (o / 16) (o / 2 % 8) x =
    if o % 2 = 0 then planePixel v (s.vram (o + 1)) x else planePixel (s.vram (o - 1)) v x := by
  have hrow : 16 * (o / 16) + 2 * (o / 2 % 8) = o - o % 2 := by omega
  rw [State.tileDecode, hrow, h, h]
  by_cases he : o % 2 = 0
  · have hlo : o - o % 2 = o := by omega
    rw [hlo, if_pos rfl, if_neg (by omega), if_pos he]
  · have hlo : o - o % 2 = o - 1 := by omega
    have hhi : o - 1 + 1 = o := by omega
    rw [hlo, hhi, if_neg (by omega), if_pos rfl, if_neg he]

theorem tileDecode_other_row {n y : Nat} (x : Nat) (hy : y < 8) (hne : ¬(n = o / 16 ∧ y = o / 2 % 8)) :
    t.tileDecode n y x = s.tileDecode n y x := by
  rw [State.tileDecode, h, h, if_neg (by omega), if_neg (by omega), State.tileDecode]

end

/-- Settles O16: the write replaces one byte of VRAM, which is on one plane of one row. -/
theorem tileRowDecoded : Obligations.TileRowDecoded := by
  intro s a v hw hlo hhi
  have hvram := vram_writeByte hw (a := a) ⟨hlo, by omega⟩ v
  exact ⟨fun x _ => ⟨tileDecode_written_row hvram x, rfl⟩,
    fun n y x _ hy hne => tileDecode_other_row hvram x hy hne⟩

end Sys2Proof.Machine

/-! PROOFS. The statements of 30_encoding.md: what the decoder answers on a list of bytes, the two tables against the
encoder, and the round trip in both directions. -/

namespace Sys2Proof

open Machine (cat hiByte loByte)

/-! ## The decoder on a list of bytes -/

/-- The bytes of an instruction that starts with `op`: as many operand bytes as `op` announces, a word low byte first
(R109, R110). -/
def instrBytes (op b1 b2 : Byte) : List Byte :=
  match opLength op with
  | .one => [op]
  | .two => [op, b1]
  | .three => [op, loByte (cat b2 b1), hiByte (cat b2 b1)]

theorem instrBytes_length (op b1 b2 : Byte) : (instrBytes op b1 b2).length = (opLength op).toNat := by
  unfold instrBytes
  cases opLength op <;> rfl

/-- What the decoder can answer on a first byte and those after it: too few, or the table's instruction of the bytes the
first announces. -/
theorem decode_cons_cases (op : Byte) (tl : List Byte) :
    (tl.length + 1 < (opLength op).toNat ∧ decode (op :: tl) = .error (.truncated op)) ∨
    (∃ b1 b2 rest, op :: tl = instrBytes op b1 b2 ++ rest ∧ decode (op :: tl) = .ok (decode3 op b1 b2, rest)) := by
  cases hl : opLength op with
  | one => exact .inr ⟨0, 0, tl, by simp [instrBytes, hl], by simp [decode, hl]⟩
  | two =>
    match tl with
    | [] => exact .inl ⟨by decide, by simp [decode, hl]⟩
    | b1 :: rest => exact .inr ⟨b1, 0, rest, by simp [instrBytes, hl], by simp [decode, hl]⟩
  | three =>
    match tl with
    | [] => exact .inl ⟨by decide, by simp [decode, hl]⟩
    | [_] => exact .inl ⟨by simp [InstrLen.toNat], by simp [decode, hl]⟩
    | b1 :: b2 :: rest => exact .inr ⟨b1, b2, rest, by simp [instrBytes, hl], by simp [decode, hl]⟩

theorem decode_cons_ne_noBytes (op : Byte) (tl : List Byte) : decode (op :: tl) ≠ .error .noBytes := by
  obtain ⟨-, hd⟩ | ⟨_, _, _, -, hd⟩ := decode_cons_cases op tl <;> simp [hd]

theorem decode_cons_eq_truncated_iff {op' op : Byte} {tl : List Byte} :
    decode (op' :: tl) = .error (.truncated op) ↔ op' = op ∧ tl.length + 1 < (opLength op').toNat := by
  obtain ⟨hlen, hd⟩ | ⟨b1, b2, rest, hbs, hd⟩ := decode_cons_cases op' tl
  · simp [hd, hlen]
  · have hlen : tl.length + 1 = (opLength op').toNat + rest.length := by
      rw [← List.length_cons, hbs, List.length_append, instrBytes_length]
    simp [hd, hlen]

/-- Settles O3: a list that is not empty is rejected only as truncated, for the length its first byte announces. -/
theorem decodeRejects : Obligations.DecodeRejects := by
  rintro (_ | ⟨op', tl⟩)
  · exact ⟨iff_of_true rfl rfl, fun op => iff_of_false nofun nofun⟩
  · refine ⟨iff_of_false (decode_cons_ne_noBytes op' tl) nofun, fun op => decode_cons_eq_truncated_iff.trans ?_⟩
    constructor
    · rintro ⟨rfl, hlen⟩
      exact ⟨tl, rfl, hlen⟩
    · rintro ⟨rest, ⟨⟩, hlen⟩
      exact ⟨rfl, hlen⟩

/-! ## The tables against the encoder -/

/-- The 256 opcode bytes as the sixteen rows of a grid of R119. -/
theorem range_eq_gridRows : List.range 256 =
    List.range' 0x00 16 ++ List.range' 0x10 16 ++ List.range' 0x20 16 ++ List.range' 0x30 16 ++
    List.range' 0x40 16 ++ List.range' 0x50 16 ++ List.range' 0x60 16 ++ List.range' 0x70 16 ++
    List.range' 0x80 16 ++ List.range' 0x90 16 ++ List.range' 0xA0 16 ++ List.range' 0xB0 16 ++
    List.range' 0xC0 16 ++ List.range' 0xD0 16 ++ List.range' 0xE0 16 ++ List.range' 0xF0 16 := by
  decide +kernel

/-- Entry `k` of the base table encodes to the opcode byte `k` and the operand bytes it announces (R110, R119). -/
theorem baseTable_map_encode (lo hi : Byte) :
    baseTable.map (fun e => encode (e lo hi)) = (List.range 256).map fun k => instrBytes (BitVec.ofNat 8 k) lo hi := by
  simp only [range_eq_gridRows, baseTable, List.map_append]
  rfl

theorem encode_decodeBase (op lo hi : Byte) : encode (decodeBase op lo hi) = instrBytes op lo hi := by
  have htable := congrArg (·[op.toNat]?) (baseTable_map_encode lo hi)
  have hlen : baseTable.length = 256 := by simpa using congrArg List.length (baseTable_map_encode lo hi)
  have hlt : op.toNat < baseTable.length := hlen ▸ op.isLt
  simpa [decodeBase, hlt, op.isLt] using htable

theorem decodeExtended_wellFormed (op2 : Byte) : (decodeExtended op2).wellFormed = true := by
  decide +revert

theorem encode_decodeExtended (op2 : Byte) : encode (decodeExtended op2) = [0xCB, op2] := by
  decide +kernel +revert

theorem Instr.wellFormed_iff {i : Instr} : i.wellFormed = true ↔ ∀ op2, i ≠ .prefix_CB op2 := by
  unfold Instr.wellFormed Instr.isEscape
  split <;> simp_all

/-- The escape gives an extended row, and any other entry stands: neither is the escape (R101). -/
theorem expandEscape_wellFormed (i : Instr) : (expandEscape i).wellFormed = true := by
  unfold expandEscape
  split
  · exact decodeExtended_wellFormed _
  · next h => exact Instr.wellFormed_iff.2 h

theorem encode_expandEscape (i : Instr) : encode (expandEscape i) = encode i := by
  unfold expandEscape
  split
  · exact encode_decodeExtended _
  · rfl

theorem encode_decode3 (op b1 b2 : Byte) : encode (decode3 op b1 b2) = instrBytes op b1 b2 := by
  rw [decode3, encode_expandEscape, encode_decodeBase]

/-! ## The round trip -/

/-- Settles O2: what decodes is a row of the table, and every row encodes to the bytes it was read from. -/
theorem encodeDecode : Obligations.EncodeDecode := by
  rintro (_ | ⟨op, tl⟩) i rest h
  · nomatch h
  · obtain ⟨-, hd⟩ | ⟨b1, b2, rest', hbs, hd⟩ := decode_cons_cases op tl
    · simp [hd] at h
    · obtain ⟨rfl, rfl⟩ : decode3 op b1 b2 = i ∧ rest' = rest := by simpa [hd] using h
      exact ⟨expandEscape_wellFormed _, by rw [encode_decode3, hbs]⟩

/-- A row that takes its two operand bytes as a word reads that word back. -/
theorem decode_word {op : Byte} {c : Word → Instr} (hlen : opLength op = .three)
    (hrow : ∀ lo hi, decode3 op lo hi = c (cat hi lo)) (n : Word) (rest : List Byte) :
    decode (op :: loByte n :: hiByte n :: rest) = .ok (c n, rest) := by
  simp [decode, hlen, hrow]

/-- Settles O1: a word operand is put together again from its two bytes; every other operand is its byte. -/
theorem decodeEncode : Obligations.DecodeEncode := by
  intro i rest hwf
  cases i
  case prefix_CB => nomatch hwf
  case ld_BC_n16 n | ld_DE_n16 n | ld_HL_n16 n | ld_SP_n16 n | ld_ma16_SP n | ld_ma16_A n | ld_A_ma16 n
      | jp_a16 n | jp_NZ_a16 n | jp_Z_a16 n | jp_NC_a16 n | jp_C_a16 n
      | call_a16 n | call_NZ_a16 n | call_Z_a16 n | call_NC_a16 n | call_C_a16 n =>
    exact decode_word rfl (fun _ _ => rfl) n rest
  all_goals rfl

theorem decode_of_encode_eq {i : Instr} {bs : List Byte} (hwf : i.wellFormed = true) (hbs : encode i = bs) :
    decode bs = .ok (i, []) := by
  simpa [hbs] using decodeEncode i [] hwf

/-- Settles O4: each word is the encoding of its instruction. -/
theorem sampleWords : Obligations.SampleWords := by
  refine ⟨?_, ?_, ?_, ?_, ?_, ?_, ?_, ?_, ?_, ?_, ?_, ?_, ?_, ?_, ?_, ?_⟩ <;> exact decode_of_encode_eq rfl rfl

end Sys2Proof

/-! PROOFS. The statements of 40_dispatcher.md: placing an instruction, the escape, the core step by the state it starts
in, the undefined opcodes, the waits and quiescence. -/

namespace Sys2Proof.Machine

/-! ## The fetched bytes -/

theorem fetchByte_zero (s : State) : s.fetchByte 0 = s.readByte .fetch s.regs.pc :=
  congrArg (s.readByte .fetch) (BitVec.add_zero s.regs.pc)
theorem fetchByte_one (s : State) : s.fetchByte 1 = s.readByte .fetch (s.regs.pc + 1) := rfl
theorem fetchByte_two (s : State) : s.fetchByte 2 = s.readByte .fetch (s.regs.pc + 2) := rfl

theorem fetchBytes_eq (s : State) :
    s.fetchBytes =
      [s.readByte .fetch s.regs.pc, s.readByte .fetch (s.regs.pc + 1), s.readByte .fetch (s.regs.pc + 2)] := by
  rw [State.fetchBytes, fetchByte_zero, fetchByte_one, fetchByte_two]

/-! ## Placing an instruction -/

/-- Three bytes placed at PC: an address that names one of them reads it, every other address reads as before. -/
theorem placeBytes_read {s : State} (hw : s.bus.mem.wf) (h0 : isStorage s.regs.pc = true)
    (h1 : isStorage (s.regs.pc + 1) = true) (h2 : isStorage (s.regs.pc + 2) = true) (b : Byte × Byte × Byte)
    (k : Access) (a : Word) :
    (s.placeBytes b).readByte k a =
      if storageKey a = storageKey (s.regs.pc + 2) then b.2.2
      else if storageKey a = storageKey (s.regs.pc + 1) then b.2.1
      else if storageKey a = storageKey s.regs.pc then b.1
      else s.readByte k a := by
  have hw1 := place_wf hw s.regs.pc b.1
  have hw2 := place_wf hw1 (s.regs.pc + 1) b.2.1
  rw [State.placeBytes, place_read hw2 k _ _ _ h2, place_read hw1 k _ _ _ h1, place_read hw k _ _ _ h0]

theorem readyToFetch_storage (s : State) :
    isStorage s.readyToFetch.regs.pc = true ∧ isStorage (s.readyToFetch.regs.pc + 1) = true ∧
    isStorage (s.readyToFetch.regs.pc + 2) = true := by
  simp only [State.readyToFetch]
  split
  · simp_all
  · decide

theorem withFetchWord_pc (s : State) (nbits w : Nat) : (s.withFetchWord nbits w).regs.pc = s.readyToFetch.regs.pc := rfl

theorem withFetchWord_readByte {s : State} (hw : s.bus.mem.wf) (nbits w : Nat) (k : Access) (a : Word) :
    (s.withFetchWord nbits w).readByte k a =
      if storageKey a = storageKey (s.readyToFetch.regs.pc + 2) then (tableBytes nbits w).2.2
      else if storageKey a = storageKey (s.readyToFetch.regs.pc + 1) then (tableBytes nbits w).2.1
      else if storageKey a = storageKey s.readyToFetch.regs.pc then (tableBytes nbits w).1
      else s.readByte k a := by
  obtain ⟨h0, h1, h2⟩ := readyToFetch_storage s
  rw [State.withFetchWord, placeBytes_read (by exact hw) h0 h1 h2,
    readByte_congr (s := s) (t := s.readyToFetch) k a rfl rfl rfl rfl]

/-- The next fetch reads the placed row: the three addresses from PC on name three bytes (log 4). -/
theorem withFetchWord_fetchByte {s : State} (hw : s.bus.mem.wf) (nbits w : Nat) :
    (s.withFetchWord nbits w).fetchByte 0 = (tableBytes nbits w).1 ∧
    (s.withFetchWord nbits w).fetchByte 1 = (tableBytes nbits w).2.1 ∧
    (s.withFetchWord nbits w).fetchByte 2 = (tableBytes nbits w).2.2 := by
  obtain ⟨h01, h02, h12⟩ := storageKey_next_ne s.readyToFetch.regs.pc
  simp only [fetchByte_zero, fetchByte_one, fetchByte_two, withFetchWord_pc, withFetchWord_readByte hw, h01, h02, h12,
    if_true, if_false, and_self]

theorem decodeTableWord_of_long {nbits : Nat} (h : 8 < nbits) (w : Nat) :
    decodeTableWord nbits w =
      some (decode3 (tableBytes nbits w).1 (tableBytes nbits w).2.1 (tableBytes nbits w).2.2) := by
  simp [decodeTableWord, Nat.not_le.2 h]

/-- PC stands where three bytes can be placed, else it is the reset entry (R93, log 4). -/
theorem readyToFetch_pc (s : State) :
    s.readyToFetch.regs.pc =
      if isStorage s.regs.pc ∧ isStorage (s.regs.pc + 1) ∧ isStorage (s.regs.pc + 2) then s.regs.pc
      else 0x0100 := by
  simp [State.readyToFetch, and_assoc]

/-- Settles O5: placing is three writes of storage, each read back by `place_read`. -/
theorem fetchWordPlaced : Obligations.FetchWordPlaced := by
  intro s nbits w hw
  obtain ⟨hb0, hb1, hb2⟩ := withFetchWord_fetchByte hw nbits w
  have hfetch : (s.withFetchWord nbits w).fetchInstr =
      decode3 (tableBytes nbits w).1 (tableBytes nbits w).2.1 (tableBytes nbits w).2.2 := by
    rw [State.fetchInstr, hb0, hb1, hb2]
  refine ⟨hb0, hb1, hb2, hfetch, fun h => by rw [hfetch, decodeTableWord_of_long h], rfl, readyToFetch_pc s,
    fun k a ha => ?_⟩
  obtain ⟨h0, h1, h2⟩ : storageKey a ≠ storageKey s.readyToFetch.regs.pc ∧
      storageKey a ≠ storageKey (s.readyToFetch.regs.pc + 1) ∧
      storageKey a ≠ storageKey (s.readyToFetch.regs.pc + 2) := by simpa [withFetchWord_pc] using ha
  rw [withFetchWord_readByte hw, if_neg h2, if_neg h1, if_neg h0]

/-! ## The escape -/

/-- Entry `k` of the extended table means what the fields of the byte `k` say (R102, R115, R128). -/
theorem extendedTable_map_exec (s : State) :
    extendedTable.map (fun i => exec i s) = (List.range 256).map fun k => .next (runExtended (BitVec.ofNat 8 k) s) := by
  simp only [range_eq_gridRows, extendedTable, List.map_append]
  rfl

theorem exec_decodeExtended (op2 : Byte) (s : State) : exec (decodeExtended op2) s = .next (runExtended op2 s) := by
  have htable := congrArg (·[op2.toNat]?) (extendedTable_map_exec s)
  have hlen : extendedTable.length = 256 := by simpa using congrArg List.length (extendedTable_map_exec s)
  have hlt : op2.toNat < extendedTable.length := hlen ▸ op2.isLt
  simpa [decodeExtended, hlt, op2.isLt] using htable

/-- The charge of an extended row, after writes that leave T and the parameters (R128). -/
theorem spendExtended_ticks {s t : State} (hd : t.disp = s.disp) (hp : t.params = s.params) (op2 : Byte) :
    (t.spendExtended op2).disp.ticks = s.disp.ticks + (s.costBase 0xCB + s.costCB op2) := by
  rw [State.spendExtended, spend_disp_ticks, hd, costBase_congr hp, costCB_congr hp]

theorem runExtended_ticks (op2 : Byte) (s : State) :
    (runExtended op2 s).disp.ticks = s.disp.ticks + (s.costBase 0xCB + s.costCB op2) := by
  unfold runExtended
  dsimp only
  split <;> exact spendExtended_ticks (by simp) (by simp) op2

/-- Settles O60: the extended table agrees with the fields of the byte, entry by entry. -/
theorem escapeRunsExtended : Obligations.EscapeRunsExtended := fun op2 s =>
  ⟨encode_decodeExtended op2, rfl, (exec_decodeExtended op2 s).symm, _, rfl, runExtended_ticks op2 s⟩

/-! ## The core step, by the state it starts in -/

theorem finishStep_of_no_fault {s : State} (h : s.disp.fault = none) : s.finishStep = s.ppuStep.interruptStep := by
  simp [State.finishStep, h]

theorem step_of_fault {s : State} {f : Fault} (h : s.disp.fault = some f) : step s = .next s := by
  simp [step, State.coreStep, h]

theorem step_of_stopped {s : State} (hf : s.disp.fault = none) (hs : s.disp.stopped = true) (hp : s.pending = false) :
    step s = .next s.finishStep := by
  simp [step, State.coreStep, State.dispatcherStep, hf, hs, hp]

theorem step_of_halted {s : State} (hf : s.disp.fault = none) (hs : s.disp.stopped = false)
    (hh : s.disp.halted = true) (hp : s.pending = false) :
    step s = .next (s.spend s.params.haltIdleTicks).finishStep := by
  simp [step, State.coreStep, State.dispatcherStep, State.haltedStep, hf, hs, hh, hp]

/-- A pending interrupt ends the stop, and the step goes on as from a core that is not stopped (R123). -/
theorem step_of_stopped_pending {s : State} (hf : s.disp.fault = none) (hs : s.disp.stopped = true)
    (hp : s.pending = true) : step s = step { s with disp.stopped := false } := by
  simp [step, State.coreStep, State.dispatcherStep, hf, hs, hp]

/-- A pending interrupt ends the halt, and the step goes on as from a running core (R122, R124). -/
theorem step_of_halted_pending {s : State} (hf : s.disp.fault = none) (hs : s.disp.stopped = false)
    (hh : s.disp.halted = true) (hp : s.pending = true) : step s = step { s with disp.halted := false } := by
  simp [step, State.coreStep, State.dispatcherStep, State.haltedStep, hf, hs, hh, hp]

theorem step_of_running {s t : State} (hf : s.disp.fault = none) (hs : s.disp.stopped = false)
    (hh : s.disp.halted = false) (he : s.executeNext = .next t) : step s = .next t.finishStep := by
  simp [step, State.coreStep, State.dispatcherStep, State.haltedStep, hf, hs, hh, he]

theorem pending_iff (s : State) : s.pending = true ↔ s.irq.ie &&& s.irq.ifr ≠ 0 := by
  simp [State.pending, State.enabledPending]

/-- Settles O20: the branches of the dispatcher for a waiting core. -/
theorem waits : Obligations.Waits := fun s hf =>
  ⟨fun hs hp => by rw [step_of_stopped hf hs hp, finishStep_of_no_fault hf], step_of_stopped_pending hf,
    fun hs hh hp => by rw [step_of_halted hf hs hh hp, finishStep_of_no_fault (by exact hf)]; rfl,
    step_of_halted_pending hf, pending_iff s⟩

/-! ## The fetched instruction -/

theorem encode_fetchInstr_length (s : State) : (encode s.fetchInstr).length = (opLength (s.fetchByte 0)).toNat := by
  rw [State.fetchInstr, encode_decode3, instrBytes_length]

/-- The instruction the core runs is what the decoder answers on the three bytes from PC on: it ignores those past the
instruction's own (log 9). -/
theorem decode_fetchBytes (s : State) : ∃ rest, decode s.fetchBytes = .ok (s.fetchInstr, rest) := by
  obtain ⟨rest, hrest⟩ : ∃ rest, s.fetchBytes = encode s.fetchInstr ++ rest := by
    rw [State.fetchBytes, State.fetchInstr, encode_decode3, instrBytes]
    cases opLength (s.fetchByte 0) <;> simp
  exact ⟨rest, hrest ▸ decodeEncode s.fetchInstr rest (expandEscape_wellFormed _)⟩

theorem executeNext_of_decode {s : State} {i : Instr} {rest : List Byte} (h : decode s.fetchBytes = .ok (i, rest)) :
    s.executeNext = exec i (s.afterFetch (encode i).length) := by
  obtain ⟨_, hd⟩ := decode_fetchBytes s
  obtain ⟨rfl, -⟩ : s.fetchInstr = i ∧ _ = rest := by simpa [hd] using h
  rw [State.executeNext, encode_fetchInstr_length]

/-- Settles O17: a running core executes what the decoder answers, then ends the step. -/
theorem stepRunsDecoded : Obligations.StepRunsDecoded := by
  intro s i rest hf hs hh hd
  rw [← fetchBytes_eq] at hd
  obtain ⟨t, ht⟩ := exec_completes i (s.afterFetch (encode i).length)
  rw [step_of_running hf hs hh ((executeNext_of_decode hd).trans ht)]
  rw [State.afterFetch] at ht
  rw [ht, State.finishStep]

/-! ## The undefined opcodes -/

/-- An undefined row is its opcode byte alone, and its meaning records that opcode (R116, R306). -/
theorem undefinedRows_spec {op : Byte} {i : Instr} (h : (op, i) ∈ Instr.undefinedRows) (s : State) :
    i.wellFormed = true ∧ encode i = [op] ∧ exec i s = .next (s.raiseUndefined op) := by
  fin_cases h <;> exact ⟨rfl, rfl, rfl⟩

theorem exists_undefinedRow {op : Byte} (h : op ∈ undefinedOps) : ∃ i, (op, i) ∈ Instr.undefinedRows := by
  have hops : undefinedOps = Instr.undefinedRows.map Prod.fst := rfl
  simpa [hops] using h

/-- Fetching an undefined opcode: PC is back at the byte, and only the fault and the draw number change (R130, R306). -/
theorem executeNext_undefined {s : State} (h : s.fetchByte 0 ∈ undefinedOps) :
    s.executeNext = .next { s with
      disp.fault := some (.undefinedOpcode (s.fetchByte 0) s.regs.pc), host.draws := s.host.draws + 1 } := by
  obtain ⟨i, hi⟩ := exists_undefinedRow h
  obtain ⟨hwf, henc, hexec⟩ := undefinedRows_spec hi (s.afterFetch 1)
  have hd : decode s.fetchBytes = .ok (i, [s.fetchByte 1, s.fetchByte 2]) := by
    simpa [henc, State.fetchBytes] using decodeEncode i [s.fetchByte 1, s.fetchByte 2] hwf
  rw [executeNext_of_decode hd, henc, List.length_singleton, hexec]
  simp [State.raiseUndefined, State.afterFetch]

/-- Settles O19: the rows, the fetch of one, and a core that is faulted. -/
theorem undefinedOpcodes : Obligations.UndefinedOpcodes := by
  refine ⟨fun op i s h => (undefinedRows_spec h s).2, fun op s hf hs hh hop hmem => ?_, fun _ _ => step_of_fault⟩
  obtain rfl : s.fetchByte 0 = op := (fetchByte_zero s).trans hop
  rw [step_of_running hf hs hh (executeNext_undefined hmem)]
  rfl

/-! ## Quiescence -/

theorem consumeTicks_of_seen {s : State} (h : s.ppu.seen = s.disp.ticks) : s.consumeTicks = s := by
  rw [State.consumeTicks, ← h, Nat.sub_self]
  rfl

theorem ppuStep_acc (s : State) :
    s.ppuStep.ppu.acc = if threshold s.ppu.mode ≤ s.consumeTicks.ppu.acc
      then s.consumeTicks.ppu.acc - threshold s.ppu.mode else s.consumeTicks.ppu.acc := by
  obtain ⟨hlt, h⟩ | ⟨hle, h⟩ := ppuStep_cases s
  · rw [h, if_neg (Nat.not_le.2 hlt)]
  · rw [h, if_pos hle]
    obtain ⟨-, -, -, -, -, -, -, hacc, -⟩ := transition_frame
      { s.consumeTicks with ppu.acc := s.consumeTicks.ppu.acc - threshold s.ppu.mode : State }
    exact hacc

theorem threshold_pos (m : PpuMode) : 0 < threshold m := by cases m <;> decide

theorem writeByte_acc (s : State) (a : Word) (v : Byte) : (s.writeByte a v).ppu.acc = s.ppu.acc := by
  obtain ⟨-, -, -, hacc, -⟩ := writeByte_keeps s a v
  exact hacc

theorem interruptStep_acc (s : State) : s.interruptStep.ppu.acc = s.ppu.acc := by
  obtain h | ⟨i, -, -, h⟩ := interruptStep_cases s
  · rw [h]
  · simp [h, State.takeInterrupt, State.push, State.writeShort, writeByte_acc]

/-- The interrupt controller does nothing where no source is requested and enabled (R312, R313). -/
theorem interruptStep_of_not_pending {s : State} (h : s.pending = false) : s.interruptStep = s := by
  obtain hi | ⟨i, hsource, -, -⟩ := interruptStep_cases s
  · exact hi
  · have hnone : s.enabledPending = 0 := by simpa [State.pending] using h
    rw [State.chosenSource, hnone] at hsource
    simpa using List.find?_some hsource

/-- The rest of the step changes nothing in a core with no new ticks and nothing pending exactly below the threshold:
at it, `acc` is lowered. -/
theorem finishStep_eq_self_iff {s : State} (hf : s.disp.fault = none) (hp : s.pending = false)
    (hseen : s.ppu.seen = s.disp.ticks) : s.finishStep = s ↔ s.ppu.acc < threshold s.ppu.mode := by
  have hconsume := consumeTicks_of_seen hseen
  rw [finishStep_of_no_fault hf]
  constructor
  · intro h
    have hacc : s.ppuStep.ppu.acc = s.ppu.acc := by rw [← interruptStep_acc, h]
    rw [ppuStep_acc, hconsume] at hacc
    have := threshold_pos s.ppu.mode
    split at hacc <;> omega
  · intro hlt
    obtain ⟨-, h⟩ | ⟨hle, -⟩ := ppuStep_cases s
    · rw [h, hconsume, interruptStep_of_not_pending hp]
    · rw [hconsume] at hle
      omega

theorem finishStep_ticks {s : State} (hf : s.disp.fault = none) : s.disp.ticks ≤ s.finishStep.disp.ticks := by
  obtain ⟨hticks, -, -, -⟩ := ((AdvancesClock.refl s).keepsTime hf).finishStep
  exact hticks

theorem exec_host {i : Instr} {s t : State} (h : exec i s = .next t) : t.host = s.host := by
  obtain ⟨_, ht, hop⟩ := exec_operation i s
  obtain rfl := Host.Outcome.next.inj (ht.symm.trans h)
  obtain ⟨-, -, hhost, -⟩ | ⟨op, rfl⟩ := operation_advancesClock hop
  · exact hhost
  · rfl

theorem executeNext_draws {s t : State} (h : s.executeNext = .next t) : t.host.draws = s.host.draws + 1 :=
  congrArg HostInput.draws (exec_host h)

theorem interruptStep_draws (s : State) : s.host.draws ≤ s.interruptStep.host.draws := by
  obtain h | ⟨i, -, -, h⟩ := interruptStep_cases s
  · rw [h]
  · simp [h, State.takeInterrupt]

theorem finishStep_draws (s : State) : s.host.draws ≤ s.finishStep.host.draws := by
  unfold State.finishStep
  split
  · exact Nat.le_refl _
  · obtain ⟨-, -, -, hhost, -⟩ := ppuStep_frame s
    exact hhost ▸ interruptStep_draws s.ppuStep

theorem haltIdleTicks_pos {p : Params} (h : positiveCosts p = true) : 0 < p.haltIdleTicks := by
  rw [positiveCosts, Bool.and_eq_true] at h
  exact of_decide_eq_true h.2

/-- Settles O21: a faulted core stands still; a stopped one by `finishStep_eq_self_iff`; a halted one adds its idle
ticks to T; a running one takes the next button draw (log 3), whatever its instruction costs. -/
theorem quiescence : Obligations.Quiescence := by
  intro s hcost hseen
  rcases step_cases s with ⟨hf, hc⟩ | ⟨hf, hs, hp, hc⟩ | ⟨hf, hs, hh, hp, hc⟩ | ⟨hf, hrun, hc⟩
  · exact iff_of_true (by simp [State.quiescent, hf]) hc
  all_goals have hnone : s.disp.fault = none := by simpa using hf
  · rw [hc, Host.Outcome.next.injEq, finishStep_eq_self_iff hnone hp (hseen hs)]
    simp [State.quiescent, hf, hs, hp]
  · refine iff_of_false (by simp [State.quiescent, hf, hs]) fun h => ?_
    have hfix := Host.Outcome.next.inj (hc.symm.trans h)
    have hticks := finishStep_ticks (s := s.spend s.params.haltIdleTicks) hnone
    have hpos := haltIdleTicks_pos hcost
    rw [hfix, spend_disp_ticks] at hticks
    omega
  · refine iff_of_false (by rcases hrun with ⟨hs, -⟩ | hp <;> simp [State.quiescent, *]) fun h => ?_
    obtain ⟨t, ht⟩ := executeNext_completes { s with disp.halted := false, disp.stopped := false }
    rw [ht] at hc
    have hfix := Host.Outcome.next.inj (hc.symm.trans h)
    have hdraws := finishStep_draws t
    rw [hfix, executeNext_draws ht] at hdraws
    exact absurd hdraws (Nat.not_succ_le_self _)

end Sys2Proof.Machine

/-! PROOFS. The statements of 41_load8.md: the loads between registers, the loads and stores of memory, and those of A
that step HL. -/

namespace Sys2Proof.Machine

/-! ## Costs -/

@[simp] theorem setR_costBase (s : State) (r : Reg8) (v op : Byte) : (s.setR r v).costBase op = s.costBase op :=
  costBase_congr (setR_params s r v) op

theorem setR_spendBase (s : State) (r : Reg8) (v op : Byte) :
    (s.setR r v).spendBase op = (s.setR r v).spend (s.costBase op) := by
  rw [State.spendBase, setR_costBase]

theorem writeByte_spendBase (s : State) (a : Word) (v op : Byte) :
    (s.writeByte a v).spendBase op = (s.writeByte a v).spend (s.costBase op) := by
  rw [State.spendBase, writeByte_costBase]

/-! ## Rows with a register in the opcode -/

theorem encode_ldRR (d r : Reg8) : encode (.ldRR d r) = [0b01#2 ++ d.code ++ r.code] := by cases d <;> cases r <;> rfl
theorem encode_ldRN (d : Reg8) (n : Byte) : encode (.ldRN d n) = [0b00#2 ++ d.code ++ 0b110#3, n] := by cases d <;> rfl
theorem encode_ldRM (d : Reg8) : encode (.ldRM d) = [0b01#2 ++ d.code ++ 0b110#3] := by cases d <;> rfl
theorem encode_ldMR (r : Reg8) : encode (.ldMR r) = [0b01110#5 ++ r.code] := by cases r <;> rfl

section
variable {s : State} (h : s.params = defaultParams)
include h

theorem costBase_ldRR (d r : Reg8) : s.costBase (0b01#2 ++ d.code ++ r.code) = 4 := by
  rw [costBase_default h]; cases d <;> cases r <;> rfl
theorem costBase_ldRN (d : Reg8) : s.costBase (0b00#2 ++ d.code ++ 0b110#3) = 8 := by
  rw [costBase_default h]; cases d <;> rfl
theorem costBase_ldRM (d : Reg8) : s.costBase (0b01#2 ++ d.code ++ 0b110#3) = 8 := by
  rw [costBase_default h]; cases d <;> rfl
theorem costBase_ldMR (r : Reg8) : s.costBase (0b01110#5 ++ r.code) = 8 := by
  rw [costBase_default h]; cases r <;> rfl

end

/-- Settles O38: a row of either family is its shared operation, which writes one register and charges its opcode. -/
theorem loadRegister : Obligations.LoadRegister :=
  ⟨fun d r s => ⟨encode_ldRR d r, fun h => costBase_ldRR h d r, by rw [exec_ldRR, ldRegReg, setR_spendBase]⟩,
   fun d n s => ⟨encode_ldRN d n, fun h => costBase_ldRN h d, by rw [exec_ldRN, ldRegImm, setR_spendBase]⟩⟩

/-! ## Memory at an address -/

theorem highPage_eq (b : Byte) : highPage b = 0xFF00 + b.setWidth 16 := by
  apply BitVec.eq_of_toNat_eq
  have hb : b.toNat < 2 ^ 8 := b.isLt
  rw [highPage, cat, BitVec.toNat_append, ← Nat.shiftLeft_add_eq_or_of_lt hb, BitVec.toNat_add, BitVec.toNat_setWidth]
  show 0xFF00 + b.toNat = (0xFF00 + b.toNat % 2 ^ 16) % 2 ^ 16
  omega

theorem loadA_eq (op : Byte) (a : Word) (s : State) : loadA op a s =
    { s with regs.a := s.readByte .data a, disp.ticks := s.disp.ticks + s.costBase op } := rfl

theorem storeA_eq (op : Byte) (a : Word) (s : State) :
    storeA op a s = (s.writeByte a s.regs.a).spend (s.costBase op) := writeByte_spendBase ..

/-- Settles O39: a row into a register is one register write; a row into A is `loadA` at the address its
operand names. -/
theorem loadFromMemory : Obligations.LoadFromMemory := by
  refine ⟨fun d s => ⟨encode_ldRM d, fun h => costBase_ldRM h d, ?_⟩, fun s a o => ?_⟩
  · exact (exec_ldRM d s).trans (congrArg Host.Outcome.next (setR_spendBase ..))
  · rw [← highPage_eq, ← highPage_eq]
    have hload (op : Byte) (x : Word) := congrArg (β := Result) .next (loadA_eq op x s)
    exact ⟨hload 0x0A s.getBC, hload 0x1A s.getDE, hload 0xFA a, hload 0xF0 (highPage o),
      hload 0xF2 (highPage s.regs.c), rfl, rfl, rfl, rfl, rfl, fun h => by simp only [costBase_default h]; decide⟩

/-- Settles O40: each row is one bus write, at the address its operand names, and the cost of its opcode. -/
theorem storeToMemory : Obligations.StoreToMemory := by
  intro s r n o a
  rw [← highPage_eq, ← highPage_eq]
  have hwrite (op : Byte) (x : Word) (v : Byte) := congrArg (β := Result) .next (writeByte_spendBase s x v op)
  have hstore (op : Byte) (x : Word) := congrArg (β := Result) .next (storeA_eq op x s)
  exact ⟨(exec_ldMR r s).trans (hwrite _ s.getHL (s.getR r)), hwrite 0x36 s.getHL n, hstore 0x02 s.getBC,
    hstore 0x12 s.getDE, hstore 0xEA a, hstore 0xE0 (highPage o), hstore 0xE2 (highPage s.regs.c),
    encode_ldMR r, rfl, rfl, rfl, rfl, rfl, rfl,
    fun h => ⟨costBase_ldMR h r, by simp only [costBase_default h]; decide⟩⟩

/-! ## Stepping HL -/

theorem setHL_spendBase (s : State) (v : Word) (op : Byte) : (s.setHL v).spendBase op = { s with
    regs.h := v.extractLsb' 8 8, regs.l := v.extractLsb' 0 8, disp.ticks := s.disp.ticks + s.costBase op } := rfl

theorem storeAStep_eq (op : Byte) (d : Word) (s : State) :
    storeAStep op d s = { s.writeByte s.getHL s.regs.a with
      regs.h := (s.getHL + d).extractLsb' 8 8, regs.l := (s.getHL + d).extractLsb' 0 8,
      disp.ticks := s.disp.ticks + s.costBase op } := by
  simp only [storeAStep, State.writeHL, setHL_spendBase, writeByte_disp, writeByte_costBase]

theorem loadAStep_eq (op : Byte) (d : Word) (s : State) :
    loadAStep op d s = { s with
      regs.a := s.readByte .data s.getHL,
      regs.h := (s.getHL + d).extractLsb' 8 8, regs.l := (s.getHL + d).extractLsb' 0 8,
      disp.ticks := s.disp.ticks + s.costBase op } := rfl

/-- Settles O41: the access, then HL, then the cost, with a step down as a step of -1. -/
theorem loadStoreStepHL : Obligations.LoadStoreStepHL := by
  intro s
  rw [BitVec.sub_eq_add_neg]
  have hstore (op : Byte) (d : Word) := congrArg (β := Result) .next (storeAStep_eq op d s)
  have hload (op : Byte) (d : Word) := congrArg (β := Result) .next (loadAStep_eq op d s)
  exact ⟨hstore 0x22 1, hstore 0x32 (-1), hload 0x2A 1, hload 0x3A (-1), rfl, rfl, rfl, rfl,
    fun h => by simp only [costBase_default h]; decide⟩

end Sys2Proof.Machine

/-! PROOFS. The statements of 42_load16.md: the loads of a pair and of SP, the store of SP, and the stack. -/

namespace Sys2Proof.Machine

/-! ## Costs -/

theorem spendBase_of_params {s t : State} (h : t.params = s.params) (op : Byte) :
    t.spendBase op = t.spend (s.costBase op) := by
  rw [State.spendBase, costBase_congr h]

/-! ## Rows with a pair in the opcode -/

theorem encode_ldPN (p : Pair) (n : Word) :
    encode (.ldPN p n) = [0b00#2 ++ p.code ++ 0b0001#4, n.extractLsb' 0 8, n.extractLsb' 8 8] := by cases p <;> rfl
theorem encode_push (p : StackPair) : encode (.push p) = [0b11#2 ++ p.code ++ 0b0101#4] := by cases p <;> rfl
theorem encode_pop (p : StackPair) : encode (.pop p) = [0b11#2 ++ p.code ++ 0b0001#4] := by cases p <;> rfl

section
variable {s : State} (h : s.params = defaultParams)
include h

theorem costBase_ldPN (p : Pair) : s.costBase (0b00#2 ++ p.code ++ 0b0001#4) = 12 := by
  rw [costBase_default h]; cases p <;> rfl
theorem costBase_push (p : StackPair) : s.costBase (0b11#2 ++ p.code ++ 0b0101#4) = 16 := by
  rw [costBase_default h]; cases p <;> rfl
theorem costBase_pop (p : StackPair) : s.costBase (0b11#2 ++ p.code ++ 0b0001#4) = 12 := by
  rw [costBase_default h]; cases p <;> rfl

end

/-! ## LD rr,n16, LD (a16),SP and LD SP,HL -/

theorem ldPairImm_eq (op : Byte) (p : Pair) (n : Word) (s : State) :
    ldPairImm op p n s = (s.setPair p n).spend (s.costBase op) :=
  spendBase_of_params (setPair_params s p n) op

theorem storeSP_eq (op : Byte) (a : Word) (s : State) :
    storeSP op a s = (s.writeShort a s.regs.sp).spend (s.costBase op) :=
  spendBase_of_params (writeShort_params s a s.regs.sp) op

theorem ldSPHL_eq (op : Byte) (s : State) :
    ldSPHL op s = { s with regs.sp := s.getHL, disp.ticks := s.disp.ticks + s.costBase op } := rfl

/-- Settles O42: a row is one write, of a pair, of the two bytes at the address or of SP, and the cost of its opcode. -/
theorem load16 : Obligations.Load16 := fun s p n =>
  ⟨encode_ldPN p n, fun h => costBase_ldPN h p, by rw [exec_ldPN, ldPairImm_eq],
   rfl, fun h => by rw [costBase_default h]; rfl, congrArg (β := Result) .next (storeSP_eq 0x08 n s),
   rfl, fun h => by rw [costBase_default h]; rfl, congrArg (β := Result) .next (ldSPHL_eq 0xF9 s)⟩

/-! ## PUSH and POP -/

theorem push_writes (s : State) (v : Word) :
    s.push v = ((s.setSP (s.regs.sp - 2)).writeByte (s.regs.sp - 2) (loByte v)).writeByte (s.regs.sp - 1) (hiByte v) := by
  have hnext : s.regs.sp - 2 + 1 = s.regs.sp - 1 := by bv_omega
  rw [State.push, State.writeShort, hnext]

theorem pushPair_eq (op : Byte) (p : StackPair) (s : State) :
    pushPair op p s = (s.push (s.getStackPair p)).spend (s.costBase op) :=
  spendBase_of_params (push_params s (s.getStackPair p)) op

theorem popPair_eq (op : Byte) (p : StackPair) (s : State) :
    popPair op p s = ((s.setSP (s.regs.sp + 2)).setStackPair p
      (cat (s.readByte .data (s.regs.sp + 1)) (s.readByte .data s.regs.sp))).spend (s.costBase op) :=
  spendBase_of_params (setStackPair_params s.dropTop p s.top) op

/-- Settles O43: a push is the two byte writes below SP; a pop is a write of the pair with the word at SP, of which each
pair takes its own two halves. -/
theorem pushPop : Obligations.PushPop := by
  intro s p
  refine ⟨encode_push p, fun h => costBase_push h p, ?_, encode_pop p, fun h => costBase_pop h p, ?_, ?_, ?_, ?_⟩
  · rw [exec_push, pushPair_eq, push_writes]; rfl
  · rw [exec_pop, popPair_eq, State.setStackPair, State.setBC, hiByte_cat, loByte_cat]; rfl
  · rw [exec_pop, popPair_eq, State.setStackPair, State.setDE, hiByte_cat, loByte_cat]; rfl
  · rw [exec_pop, popPair_eq, State.setStackPair, State.setHL, hiByte_cat, loByte_cat]; rfl
  · rw [exec_pop, popPair_eq, State.setStackPair, State.setAF, hiByte_cat, loByte_cat]; rfl

end Sys2Proof.Machine

/-! PROOFS. The statements of 43_alu8.md: arithmetic and logic on A, the increments and decrements, the rows on A and the
flags alone, and what the decimal adjustment is for. -/

namespace Sys2Proof.Machine

/-! ## The helpers in numbers -/

theorem toNat_and_0x0F (v : Byte) : (v &&& 0x0F).toNat = v.toNat % 16 := Nat.and_two_pow_sub_one_eq_mod v.toNat 4

theorem ofNat_beq_zero (n : Nat) : (BitVec.ofNat 8 n == 0) = decide (n % 256 = 0) :=
  decide_eq_decide.mpr BitVec.toNat_eq

theorem ofInt_beq_zero (d : Int) : (BitVec.ofInt 8 d == 0) = decide (d % 256 = 0) :=
  decide_eq_decide.mpr (by
    rw [BitVec.toNat_eq, BitVec.toNat_ofInt]
    show (d % 256).toNat = 0 ↔ d % 256 = 0
    omega)

/-- The sum of R170 in numbers. -/
theorem add8_eq (a v : Byte) (cin : Bool) : add8 a v cin =
    { res := BitVec.ofNat 8 (a.toNat + v.toNat + cin.toNat)
      z := decide ((a.toNat + v.toNat + cin.toNat) % 256 = 0)
      n := false
      h := decide (15 < a.toNat % 16 + v.toNat % 16 + cin.toNat)
      c := decide (255 < a.toNat + v.toNat + cin.toNat) } := by
  simp only [add8, toNat_and_0x0F, ofNat_beq_zero, gt_iff_lt]

/-- The difference of R171 in integers. -/
theorem sub8_eq (a v : Byte) (cin : Bool) : sub8 a v cin =
    { res := BitVec.ofInt 8 (a.toNat - v.toNat - cin.toNat)
      z := decide (((a.toNat : Int) - v.toNat - cin.toNat) % 256 = 0)
      n := true
      h := decide (a.toNat % 16 < v.toNat % 16 + cin.toNat)
      c := decide (a.toNat < v.toNat + cin.toNat) } := by
  simp only [sub8, toNat_and_0x0F, ofInt_beq_zero]

theorem ofInt_toNat_sub (a : Byte) (k : Nat) : BitVec.ofInt 8 (a.toNat - k) = a - BitVec.ofNat 8 k := by
  have hcast : BitVec.ofInt 8 (a.toNat - k) = BitVec.ofNat 8 a.toNat - BitVec.ofNat 8 k := Int.cast_sub ..
  rw [hcast, BitVec.ofNat_toNat, BitVec.setWidth_eq]

theorem inc8_eq (v : Byte) : inc8 v = v + 1 := BitVec.eq_of_toNat_eq (by simp [inc8])

theorem dec8_eq (v : Byte) : dec8 v = v - 1 := ofInt_toNat_sub v 1

theorem inc8_beq_zero (v : Byte) : (inc8 v == 0) = decide ((v.toNat + 1) % 256 = 0) := ofNat_beq_zero _

theorem dec8_beq_zero (v : Byte) : (dec8 v == 0) = decide (v.toNat = 1) := by
  have hv := v.isLt
  rw [dec8, ofInt_beq_zero]
  exact decide_eq_decide.mpr (by omega)

theorem inc8H_eq (v : Byte) : inc8H v = decide (v.toNat % 16 = 15) := by
  rw [← toNat_and_0x0F]
  exact decide_eq_decide.mpr BitVec.toNat_eq

theorem dec8H_eq (v : Byte) : dec8H v = decide (v.toNat % 16 = 0) := by
  rw [← toNat_and_0x0F]
  exact decide_eq_decide.mpr BitVec.toNat_eq

/-! ## The operations on A -/

theorem applyAlu_spendBase (o : AluOp) (v : Byte) (s : State) (op : Byte) :
    (applyAlu o v s).spendBase op = { s with
      regs.a := if writesA o then (aluResult o s.regs.a v s.flagC).res else s.regs.a
      regs.f := flagByte (aluResult o s.regs.a v s.flagC).z (aluResult o s.regs.a v s.flagC).n
        (aluResult o s.regs.a v s.flagC).h (aluResult o s.regs.a v s.flagC).c
      disp.ticks := s.disp.ticks + s.costBase op } := by
  rw [applyAlu_eq]; rfl

theorem encode_aluR (o : AluOp) (r : Reg8) : encode (.aluR o r) = [0b10#2 ++ o.code ++ r.code] := by
  cases o <;> cases r <;> rfl
theorem encode_aluM (o : AluOp) : encode (.aluM o) = [0b10#2 ++ o.code ++ 0b110#3] := by cases o <;> rfl
theorem encode_aluN (o : AluOp) (n : Byte) : encode (.aluN o n) = [0b11#2 ++ o.code ++ 0b110#3, n] := by
  cases o <;> rfl

section
variable {s : State} (h : s.params = defaultParams)
include h

theorem costBase_aluR (o : AluOp) (r : Reg8) : s.costBase (0b10#2 ++ o.code ++ r.code) = 4 := by
  rw [costBase_default h]; cases o <;> cases r <;> rfl
theorem costBase_aluM (o : AluOp) : s.costBase (0b10#2 ++ o.code ++ 0b110#3) = 8 := by
  rw [costBase_default h]; cases o <;> rfl
theorem costBase_aluN (o : AluOp) : s.costBase (0b11#2 ++ o.code ++ 0b110#3) = 8 := by
  rw [costBase_default h]; cases o <;> rfl

end

/-- The three rows of an operation (R103) have their codes and costs, and run it on their operand: `effect` is what the
operation does with a value, charged for an opcode. -/
theorem aluRows (o : AluOp) (s : State) (r : Reg8) (n : Byte) {effect : Byte → Byte → Result}
    (heffect : ∀ v op, .next ((applyAlu o v s).spendBase op) = effect v op) :
    let opR : Byte := 0b10#2 ++ o.code ++ r.code
    let opM : Byte := 0b10#2 ++ o.code ++ 0b110#3
    let opN : Byte := 0b11#2 ++ o.code ++ 0b110#3
    encode (.aluR o r) = [opR] ∧ encode (.aluM o) = [opM] ∧ encode (.aluN o n) = [opN, n] ∧
    (s.params = defaultParams → s.costBase opR = 4 ∧ s.costBase opM = 8 ∧ s.costBase opN = 8) ∧
    exec (.aluR o r) s = effect (s.getR r) opR ∧ exec (.aluM o) s = effect (s.readByte .data s.getHL) opM ∧
    exec (.aluN o n) s = effect n opN :=
  ⟨encode_aluR o r, encode_aluM o, encode_aluN o n,
   fun h => ⟨costBase_aluR h o r, costBase_aluM h o, costBase_aluN h o⟩,
   (exec_aluR o r s).trans (heffect ..), (exec_aluM o s).trans (heffect ..), (exec_aluN o n s).trans (heffect ..)⟩

/-- Settles O44: both operations are `add8`, with the carry flag for ADC and with none for ADD. -/
theorem addAdc : Obligations.AddAdc := by
  intro carry s r n
  cases carry with
  | false => exact aluRows .add s r n fun v op => by rw [applyAlu_spendBase, aluResult, add8_eq]
  | true => exact aluRows .adc s r n fun v op => by rw [applyAlu_spendBase, aluResult, add8_eq]

/-- Settles O45: the three operations are `sub8`, with the carry flag for SBC alone; CP does not write A. -/
theorem subSbcCp : Obligations.SubSbcCp := by
  intro o s r n ho cin effect
  refine aluRows o s r n (effect := effect) fun v op => ?_
  cases o with
  | sub | sbc | cp => rw [applyAlu_spendBase, aluResult, sub8_eq]; rfl
  | add | adc | and | xor | or => exact absurd ho (by decide)

/-- Settles O46: each operation is its helper, which carries nothing. -/
theorem andXorOr : Obligations.AndXorOr := by
  intro o s r n ho effect
  refine aluRows o s r n (effect := effect) fun v op => ?_
  cases o with
  | and | xor | or => rw [applyAlu_spendBase]; rfl
  | add | adc | sub | sbc | cp => exact absurd ho (by decide)

/-! ## INC and DEC -/

theorem encode_incR (r : Reg8) : encode (.incR r) = [0b00#2 ++ r.code ++ 0b100#3] := by cases r <;> rfl
theorem encode_decR (r : Reg8) : encode (.decR r) = [0b00#2 ++ r.code ++ 0b101#3] := by cases r <;> rfl

section
variable {s : State} (h : s.params = defaultParams)
include h

theorem costBase_incR (r : Reg8) : s.costBase (0b00#2 ++ r.code ++ 0b100#3) = 4 := by
  rw [costBase_default h]; cases r <;> rfl
theorem costBase_decR (r : Reg8) : s.costBase (0b00#2 ++ r.code ++ 0b101#3) = 4 := by
  rw [costBase_default h]; cases r <;> rfl

end

section
variable {s t : State} (hdisp : t.disp = s.disp) (hparams : t.params = s.params) (hf : t.regs.f = s.regs.f)
include hdisp hparams hf

/-- The flags of an increment of v, and its cost, on a state t that has the F, ticks and cost table of s (R175). -/
theorem incFlags_spendBase (v op : Byte) : (incFlags v t).spendBase op = { t with
    regs.f := flagByte ((v.toNat + 1) % 256 = 0) false (v.toNat % 16 = 15) s.flagC
    disp.ticks := s.disp.ticks + s.costBase op } := by
  rw [incFlags, flagLine_eq _ _ _ _ _ rfl, inc8_beq_zero, inc8H_eq, flagC_eq, ← hf, ← hdisp, ← costBase_congr hparams]
  rfl

/-- The flags of a decrement of v, and its cost, on a state t that has the F, ticks and cost table of s (R176). -/
theorem decFlags_spendBase (v op : Byte) : (decFlags v t).spendBase op = { t with
    regs.f := flagByte (v.toNat = 1) true (v.toNat % 16 = 0) s.flagC
    disp.ticks := s.disp.ticks + s.costBase op } := by
  rw [decFlags, flagLine_eq _ _ _ _ _ rfl, dec8_beq_zero, dec8H_eq, flagC_eq, ← hf, ← hdisp, ← costBase_congr hparams]
  rfl

end

/-- Settles O47: one write, of the register or of the byte at HL, then the flags of the value before it. -/
theorem incDec8 : Obligations.IncDec8 := by
  intro s r
  refine ⟨encode_incR r, encode_decR r, rfl, rfl, fun h => ⟨costBase_incR h r, costBase_decR h r,
    by rw [costBase_default h]; rfl, by rw [costBase_default h]; rfl⟩, ?_, ?_, ?_, ?_⟩
  · rw [exec_incR, incReg, inc8_eq, incFlags_spendBase (setR_disp ..) (setR_params ..) (setR_regs_f ..)]; rfl
  · rw [exec_decR, decReg, dec8_eq, decFlags_spendBase (setR_disp ..) (setR_params ..) (setR_regs_f ..)]; rfl
  · show Host.Outcome.next (incMem 0x34 s) = _
    rw [incMem, inc8_eq, State.writeHL, incFlags_spendBase (writeByte_disp ..) (writeByte_params ..)
      (congrArg Regs.f (writeByte_regs ..))]; rfl
  · show Host.Outcome.next (decMem 0x35 s) = _
    rw [decMem, dec8_eq, State.writeHL, decFlags_spendBase (writeByte_disp ..) (writeByte_params ..)
      (congrArg Regs.f (writeByte_regs ..))]; rfl

/-! ## DAA, CPL, SCF and CCF -/

/-- What DAA adds or takes away: 6 for the low digit, 0x60 for the high one (R205). -/
def daaAdjust (six sixty : Bool) : Nat := (if six then 0x06 else 0) + (if sixty then 0x60 else 0)

theorem toNat_daaAdjust (six sixty : Bool) :
    ((if six then 0x06 else 0) ||| (if sixty then 0x60 else 0) : Byte).toNat = daaAdjust six sixty := by
  cases six <;> cases sixty <;> rfl

/-- DAA after an addition. -/
theorem daaResult_add (a : Byte) (h c : Bool) : daaResult a false h c =
    (a + BitVec.ofNat 8 (daaAdjust (h || decide (9 < a.toNat % 16)) (c || decide (0x99 < a.toNat))),
      c || decide (0x99 < a.toNat)) := by
  simp only [daaResult, Bool.false_eq_true, if_false, toNat_and_0x0F, gt_iff_lt, toNat_daaAdjust, BitVec.ofNat_add,
    BitVec.ofNat_toNat, BitVec.setWidth_eq]

/-- DAA after a subtraction. -/
theorem daaResult_sub (a : Byte) (h c : Bool) : daaResult a true h c = (a - BitVec.ofNat 8 (daaAdjust h c), c) := by
  simp only [daaResult, if_true, toNat_daaAdjust, ofInt_toNat_sub]

theorem decimalAdjust_eq (op : Byte) (s : State) : decimalAdjust op s = { s with
    regs.a := (daaResult s.regs.a s.flagN s.flagH s.flagC).1
    regs.f := flagByte ((daaResult s.regs.a s.flagN s.flagH s.flagC).1 = 0) s.flagN false
      (daaResult s.regs.a s.flagN s.flagH s.flagC).2
    disp.ticks := s.disp.ticks + s.costBase op } := by
  simp only [decimalAdjust]
  rw [flagLine_eq _ _ _ _ _ rfl, flagN_eq]; rfl

theorem complementA_eq (op : Byte) (s : State) : complementA op s = { s with
    regs.a := s.regs.a ^^^ 0xFF, regs.f := flagByte s.flagZ true true s.flagC
    disp.ticks := s.disp.ticks + s.costBase op } := by
  rw [complementA, flagLine_eq _ _ _ _ _ rfl, flagZ_eq, flagC_eq, ← BitVec.xor_allOnes]; rfl

theorem setCarry_eq (op : Byte) (s : State) : setCarry op s = { s with
    regs.f := flagByte s.flagZ false false true, disp.ticks := s.disp.ticks + s.costBase op } := by
  rw [setCarry, flagLine_eq _ _ _ _ _ rfl, flagZ_eq]; rfl

theorem complementCarry_eq (op : Byte) (s : State) : complementCarry op s = { s with
    regs.f := flagByte s.flagZ false false (!s.flagC), disp.ticks := s.disp.ticks + s.costBase op } := by
  rw [complementCarry, flagLine_eq _ _ _ _ _ rfl, flagZ_eq]; rfl

/-- Settles O48: DAA by the two cases of N; the others are one write of F. -/
theorem accumulatorAndFlags : Obligations.AccumulatorAndFlags := by
  intro s
  refine ⟨(congrArg (β := Result) .next (decimalAdjust_eq 0x27 s)).trans ?_,
    congrArg (β := Result) .next (complementA_eq 0x2F s), congrArg (β := Result) .next (setCarry_eq 0x37 s),
    congrArg (β := Result) .next (complementCarry_eq 0x3F s), rfl, rfl, rfl, rfl,
    fun h => by simp only [costBase_default h]; decide⟩
  cases hn : s.flagN with
  | false => rw [daaResult_add]; rfl
  | true => rw [daaResult_sub]; simp only [Bool.not_true, Bool.false_and, Bool.or_false]; rfl

/-! ## Two-digit decimal numbers -/

/-- A two-digit decimal number, a digit in each nibble. -/
def bcd (n : Nat) : Byte := BitVec.ofNat 8 (n / 10 * 16 + n % 10)

theorem toNat_bcd {n : Nat} (hn : n < 100) : (bcd n).toNat = n / 10 * 16 + n % 10 := by
  rw [bcd, BitVec.toNat_ofNat]; omega

/-- DAA after ADD: H or a low digit past 9 is the units' carry, C or a byte past 0x99 that of the whole. -/
theorem daaResult_add8_bcd {x y : Nat} (hx : x < 100) (hy : y < 100) :
    daaResult (add8 (bcd x) (bcd y) false).res false (add8 (bcd x) (bcd y) false).h (add8 (bcd x) (bcd y) false).c =
      (bcd ((x + y) % 100), decide (100 ≤ x + y)) := by
  simp only [add8_eq, toNat_bcd hx, toNat_bcd hy, daaResult_add, BitVec.toNat_ofNat, Bool.toNat_false, Nat.add_zero,
    ← Bool.decide_or]
  generalize hsum : x / 10 * 16 + x % 10 + (y / 10 * 16 + y % 10) = sum
  have hsix : (15 < (x / 10 * 16 + x % 10) % 16 + (y / 10 * 16 + y % 10) % 16 ∨ 9 < sum % 2 ^ 8 % 16) ↔
      10 ≤ x % 10 + y % 10 := by omega
  have hsixty : (255 < sum ∨ 0x99 < sum % 2 ^ 8) ↔ 100 ≤ x + y := by omega
  simp only [hsix, hsixty, ← BitVec.ofNat_add, bcd]
  congr 1
  apply BitVec.eq_of_toNat_eq
  rw [BitVec.toNat_ofNat, BitVec.toNat_ofNat, daaAdjust]
  simp only [decide_eq_true_eq]
  split <;> split <;> omega

/-- DAA after SUB: H is the units' borrow, C that of the whole. -/
theorem daaResult_sub8_bcd {x y : Nat} (hx : x < 100) (hy : y < 100) :
    daaResult (sub8 (bcd x) (bcd y) false).res true (sub8 (bcd x) (bcd y) false).h (sub8 (bcd x) (bcd y) false).c =
      (bcd ((x + 100 - y) % 100), decide (x < y)) := by
  simp only [sub8_eq, toNat_bcd hx, toNat_bcd hy, daaResult_sub, Bool.toNat_false, Nat.add_zero]
  have hsix : (x / 10 * 16 + x % 10) % 16 < (y / 10 * 16 + y % 10) % 16 ↔ x % 10 < y % 10 := by omega
  have hsixty : x / 10 * 16 + x % 10 < y / 10 * 16 + y % 10 ↔ x < y := by omega
  simp only [hsix, hsixty]
  congr 1
  apply BitVec.eq_of_toNat_eq
  rw [BitVec.toNat_sub, BitVec.toNat_ofInt, BitVec.toNat_ofNat, bcd, BitVec.toNat_ofNat, daaAdjust]
  simp only [decide_eq_true_eq]
  split <;> split <;> omega

/-- The flags of a state whose F is one flag byte (R33). -/
theorem flags_of_flagByte {s : State} {z n h c : Bool} (hf : s.regs.f = flagByte z n h c) :
    s.flagN = n ∧ s.flagH = h ∧ s.flagC = c := by
  rw [flagN_eq, flagH_eq, flagC_eq, hf, flagByte_bits, flagByte_bits, flagByte_bits]
  exact ⟨rfl, rfl, rfl⟩

/-- An operation that writes A and then DAA: what DAA makes of the operation's result and flags (R205). -/
theorem aluR_then_daa (o : AluOp) (ho : writesA o = true) (r : Reg8) (s : State) {a : Byte} {p : Prop} [Decidable p]
    (hdaa : let x := aluResult o s.regs.a (s.getR r) s.flagC; daaResult x.res x.n x.h x.c = (a, decide p)) :
    ∃ t u, exec (.aluR o r) s = .next t ∧ exec .daa t = .next u ∧ u.regs.a = a ∧ (u.flagC = true ↔ p) := by
  refine ⟨_, _, exec_aluR o r s, congrArg (β := Result) .next (decimalAdjust_eq 0x27 _), ?_⟩
  rw [aluReg]
  have hregs := congrArg State.regs (applyAlu_spendBase o (s.getR r) s (0b10#2 ++ o.code ++ r.code))
  have ha := (congrArg Regs.a hregs).trans (if_pos ho)
  obtain ⟨hn, hh, hc⟩ := flags_of_flagByte (congrArg Regs.f hregs)
  rw [hn, hh, hc, ha, hdaa]
  refine ⟨rfl, ?_⟩
  rw [(flags_of_flagByte rfl).2.2, decide_eq_true_eq]

/-- Settles O49 (`decimalAdjust` is the model's own name): on two-digit numbers the flags of ADD and of SUB are
what DAA needs to mend both digits. -/
theorem decimalAdjust_bcd : Obligations.DecimalAdjust := by
  intro s x y hx hy _ (ha : s.regs.a = bcd x) (hb : s.regs.b = bcd y)
  refine ⟨aluR_then_daa .add rfl .B s ?_, aluR_then_daa .sub rfl .B s ?_⟩
  · rw [State.getR, ha, hb]; exact daaResult_add8_bcd hx hy
  · rw [State.getR, ha, hb]; exact daaResult_sub8_bcd hx hy

end Sys2Proof.Machine

/-! PROOFS. The statements of 44_alu16.md: the 16-bit additions into HL, the increments and decrements of a pair, and the
signed displacements of SP. -/

namespace Sys2Proof.Machine

/-! ## The helpers in numbers -/

theorem hiByte_ofNat (n : Nat) : hiByte (BitVec.ofNat 16 n) = BitVec.ofNat 8 (n / 256) := by
  apply BitVec.eq_of_toNat_eq
  rw [hiByte, BitVec.extractLsb'_toNat, BitVec.toNat_ofNat, BitVec.toNat_ofNat, Nat.shiftRight_eq_div_pow]
  omega

theorem loByte_ofNat (n : Nat) : loByte (BitVec.ofNat 16 n) = BitVec.ofNat 8 n := by
  apply BitVec.eq_of_toNat_eq
  rw [loByte, BitVec.extractLsb'_toNat, BitVec.toNat_ofNat, BitVec.toNat_ofNat, Nat.shiftRight_zero]
  omega

/-- H of R220: the carry out of bit 11. -/
theorem add16H_eq (a v : Word) : add16H a v = decide (0xFFF < a.toNat % 0x1000 + v.toNat % 0x1000) := by
  have hlow (w : Word) : (w &&& 0x0FFF).toNat = w.toNat % 0x1000 := Nat.and_two_pow_sub_one_eq_mod w.toNat 12
  rw [add16H, hlow, hlow]

/-- The sum of R221 in integers: the displacement counts as signed. -/
theorem addSP_eq (sp : Word) (e : Byte) : addSP sp e = BitVec.ofInt 16 (sp.toNat + e.toInt) := by
  rw [BitVec.ofInt_add, BitVec.ofInt_natCast, BitVec.ofNat_toNat, BitVec.setWidth_eq]
  exact (BitVec.add_def ..).symm

theorem addSPH_eq (sp : Word) (e : Byte) : addSPH sp e = decide (15 < sp.toNat % 16 + e.toNat % 16) := by
  have hlow : (sp &&& 0x0F).toNat = sp.toNat % 16 := Nat.and_two_pow_sub_one_eq_mod sp.toNat 4
  rw [addSPH, hlow, toNat_and_0x0F]

theorem addSPC_eq (sp : Word) (e : Byte) : addSPC sp e = decide (255 < sp.toNat % 256 + e.toNat) := by
  have hlow : (sp &&& 0xFF).toNat = sp.toNat % 256 := Nat.and_two_pow_sub_one_eq_mod sp.toNat 8
  rw [addSPC, hlow]

/-! ## Rows with a pair in the opcode -/

theorem encode_addHL (p : Pair) : encode (.addHL p) = [0b00#2 ++ p.code ++ 0b1001#4] := by cases p <;> rfl
theorem encode_incP (p : Pair) : encode (.incP p) = [0b00#2 ++ p.code ++ 0b0011#4] := by cases p <;> rfl
theorem encode_decP (p : Pair) : encode (.decP p) = [0b00#2 ++ p.code ++ 0b1011#4] := by cases p <;> rfl

section
variable {s : State} (h : s.params = defaultParams)
include h

theorem costBase_addHL (p : Pair) : s.costBase (0b00#2 ++ p.code ++ 0b1001#4) = 8 := by
  rw [costBase_default h]; cases p <;> rfl
theorem costBase_incP (p : Pair) : s.costBase (0b00#2 ++ p.code ++ 0b0011#4) = 8 := by
  rw [costBase_default h]; cases p <;> rfl
theorem costBase_decP (p : Pair) : s.costBase (0b00#2 ++ p.code ++ 0b1011#4) = 8 := by
  rw [costBase_default h]; cases p <;> rfl

end

/-! ## ADD HL,rr, INC rr and DEC rr -/

theorem addHLPair_eq (op : Byte) (p : Pair) (s : State) : addHLPair op p s = { s with
    regs.h := BitVec.ofNat 8 ((s.getHL.toNat + (s.getPair p).toNat) / 256)
    regs.l := BitVec.ofNat 8 (s.getHL.toNat + (s.getPair p).toNat)
    regs.f := flagByte s.flagZ false (0xFFF < s.getHL.toNat % 0x1000 + (s.getPair p).toNat % 0x1000)
      (0xFFFF < s.getHL.toNat + (s.getPair p).toNat)
    disp.ticks := s.disp.ticks + s.costBase op } := by
  rw [addHLPair, flagLine_eq _ _ _ _ _ rfl, State.setHL, add16, hiByte_ofNat, loByte_ofNat, add16H_eq, flagZ_eq]
  rfl

theorem incPair_eq (op : Byte) (p : Pair) (s : State) :
    incPair op p s = (s.setPair p (s.getPair p + 1)).spend (s.costBase op) :=
  spendBase_of_params (setPair_params ..) op

theorem decPair_eq (op : Byte) (p : Pair) (s : State) :
    decPair op p s = (s.setPair p (s.getPair p - 1)).spend (s.costBase op) :=
  spendBase_of_params (setPair_params ..) op

/-- Settles O50: ADD HL,rr is one write of H, L and F with the sum in numbers; INC and DEC are one write of the pair. -/
theorem arithmetic16 : Obligations.Arithmetic16 := fun s p =>
  ⟨encode_addHL p, encode_incP p, encode_decP p,
   fun h => ⟨costBase_addHL h p, costBase_incP h p, costBase_decP h p⟩,
   by rw [exec_addHL, addHLPair_eq], by rw [exec_incP, incPair_eq], by rw [exec_decP, decPair_eq]⟩

/-! ## ADD SP,e8 and LD HL,SP+e8 -/

/-- The flags of a displacement and its cost, after the write of the sum (R221). -/
theorem addSPFlags_spendBase (sp : Word) (e op : Byte) (s : State) : (addSPFlags sp e s).spendBase op = { s with
    regs.f := flagByte false false (15 < sp.toNat % 16 + e.toNat % 16) (255 < sp.toNat % 256 + e.toNat)
    disp.ticks := s.disp.ticks + s.costBase op } := by
  rw [addSPFlags, flagLine_eq _ _ _ _ _ rfl, addSPH_eq, addSPC_eq]; rfl

/-- Settles O51: one write, of SP or of HL, with the signed sum, then the flags of the low-byte addition. -/
theorem spDisplacement : Obligations.SpDisplacement := by
  intro s e
  refine ⟨rfl, rfl, fun h => by simp only [costBase_default h]; decide, ?_, ?_⟩
  · show Host.Outcome.next (addSPImm 0xE8 e s) = _
    rw [addSPImm, addSPFlags_spendBase, addSP_eq]; rfl
  · show Host.Outcome.next (ldHLSP 0xF8 e s) = _
    rw [ldHLSP, addSPFlags_spendBase, addSP_eq]; rfl

end Sys2Proof.Machine

/-! PROOFS. The statements of 45_rotate.md: the rotates of A, from the rotates of a byte (R230 to R233). -/

namespace Sys2Proof.Machine

/-! ## The rotates of a byte, bit by bit -/

theorem extractLsb'_one (v : Byte) (i : Nat) : v.extractLsb' i 1 = BitVec.ofBool (v.getLsbD i) := by
  ext j hj
  obtain rfl : j = 0 := by omega
  simp

theorem shiftLeft_one_eq (v : Byte) : v <<< 1 = v.extractLsb' 0 7 ++ 0#1 :=
  BitVec.shiftLeft_eq_concat_of_lt (by decide)

theorem ushiftRight_one_eq (v : Byte) : v >>> 1 = 0#1 ++ v.extractLsb' 1 7 :=
  BitVec.ushiftRight_eq_extractLsb'_of_lt (by decide)

theorem bitByte_eq (b : Bool) : bitByte b = 0#7 ++ BitVec.ofBool b := by cases b <;> rfl

theorem bitByte_shiftLeft_seven (b : Bool) : bitByte b <<< 7 = BitVec.ofBool b ++ 0#7 := by cases b <;> rfl

/-- The bit `c` comes in from the right (R232). -/
theorem rl8_eq (v : Byte) (c : Bool) : rl8 v c = (v.extractLsb' 0 7 ++ BitVec.ofBool c, v.getLsbD 7) := by
  rw [rl8, shiftLeft_one_eq, bitByte_eq, BitVec.or_append, BitVec.or_zero, BitVec.zero_or]

/-- The bit `c` comes in from the left (R233). -/
theorem rr8_eq (v : Byte) (c : Bool) : rr8 v c = (BitVec.ofBool c ++ v.extractLsb' 1 7, v.getLsbD 0) := by
  rw [rr8, ushiftRight_one_eq, bitByte_shiftLeft_seven, BitVec.or_append, BitVec.or_zero, BitVec.zero_or]

/-- R230 is R232 with the bit shifted out coming in. -/
theorem rlc8_eq (v : Byte) : rlc8 v = (v.extractLsb' 0 7 ++ v.extractLsb' 7 1, v.getLsbD 7) :=
  (rl8_eq v (v.getLsbD 7)).trans (by rw [extractLsb'_one])

/-- R231 is R233 with the bit shifted out coming in. -/
theorem rrc8_eq (v : Byte) : rrc8 v = (v.extractLsb' 0 1 ++ v.extractLsb' 1 7, v.getLsbD 0) :=
  (rr8_eq v (v.getLsbD 0)).trans (by rw [extractLsb'_one])

/-! ## RLCA, RRCA, RLA and RRA -/

/-- A rotate of A is one write of A and F, with Z always clear (R238 to R241). -/
theorem rotateA_eq {o : ShiftOp} {s : State} {res : Byte} {out : Bool}
    (h : shiftResult o s.regs.a s.flagC = (res, out)) (op : Byte) : rotateA op o s = { s with
    regs.a := res, regs.f := flagByte false false false out, disp.ticks := s.disp.ticks + s.costBase op } := by
  simp only [rotateA, h]
  rw [flagLine_eq _ _ _ _ _ rfl]; rfl

/-- Settles O52: each row is `rotateA` with its rotate of a byte. -/
theorem accumulatorRotates : Obligations.AccumulatorRotates := by
  intro s
  have hrow (op : Byte) (o : ShiftOp) {res : Byte} {out : Bool} (h : shiftResult o s.regs.a s.flagC = (res, out)) :=
    congrArg (β := Result) .next (rotateA_eq h op)
  exact ⟨hrow 0x07 .rlc (rlc8_eq _), hrow 0x0F .rrc (rrc8_eq _), hrow 0x17 .rl (rl8_eq _ _),
    hrow 0x1F .rr (rr8_eq _ _), rfl, rfl, rfl, rfl, fun h => by simp only [costBase_default h]; decide⟩

end Sys2Proof.Machine

/-! PROOFS. The statements of 46_cb.md: the extended rotates, shifts and SWAP, and BIT, RES and SET, each proved once for
both forms of the operand. -/

namespace Sys2Proof.Machine

/-! ## Encodings and costs of the extended rows -/

theorem encode_shiftR (o : ShiftOp) (r : Reg8) : encode (.shiftR o r) = [0xCB, 0b00#2 ++ o.code ++ r.code] := by
  cases o <;> cases r <;> rfl
theorem encode_shiftM (o : ShiftOp) : encode (.shiftM o) = [0xCB, 0b00#2 ++ o.code ++ 0b110#3] := by cases o <;> rfl
theorem encode_bitR (b : BitNo) (r : Reg8) : encode (.bitR b r) = [0xCB, 0b01#2 ++ b.code ++ r.code] := by
  cases b <;> cases r <;> rfl
theorem encode_bitM (b : BitNo) : encode (.bitM b) = [0xCB, 0b01#2 ++ b.code ++ 0b110#3] := by cases b <;> rfl
theorem encode_resR (b : BitNo) (r : Reg8) : encode (.resR b r) = [0xCB, 0b10#2 ++ b.code ++ r.code] := by
  cases b <;> cases r <;> rfl
theorem encode_resM (b : BitNo) : encode (.resM b) = [0xCB, 0b10#2 ++ b.code ++ 0b110#3] := by cases b <;> rfl
theorem encode_setR (b : BitNo) (r : Reg8) : encode (.setR b r) = [0xCB, 0b11#2 ++ b.code ++ r.code] := by
  cases b <;> cases r <;> rfl
theorem encode_setM (b : BitNo) : encode (.setM b) = [0xCB, 0b11#2 ++ b.code ++ 0b110#3] := by cases b <;> rfl

section
variable {s : State} (h : s.params = defaultParams)
include h

/-- Every extended row on a register costs 8, the escape's share included (R128, R137). -/
theorem extendedCost_reg (x : BitVec 2) (y : BitVec 3) (r : Reg8) :
    s.costBase 0xCB + s.costCB (x ++ y ++ r.code) = 8 := by
  rw [costBase_default h, costCB_default h]
  revert x y
  cases r <;> decide

/-- An extended row on the byte at HL costs 16, but for BIT, which does not write it back (R128, R137). -/
theorem extendedCost_mHL (x : BitVec 2) (y : BitVec 3) :
    s.costBase 0xCB + s.costCB (x ++ y ++ 0b110#3) = if x = 1 then 12 else 16 := by
  rw [costBase_default h, costCB_default h]
  revert x y
  decide

end

theorem spendExtended_of_params {s t : State} (h : t.params = s.params) (op2 : Byte) :
    t.spendExtended op2 = t.spend (s.costBase 0xCB + s.costCB op2) := by
  rw [State.spendExtended, costBase_congr h, costCB_congr h]

/-! ## The shifts of a byte, bit by bit -/

/-- The eight operations of R107 as a rearrangement of bits, with the carry flag before the instruction. -/
def shiftedByte (o : ShiftOp) (v : Byte) (c : Bool) : Byte :=
  match o with
  | .rlc => v.extractLsb' 0 7 ++ v.extractLsb' 7 1
  | .rrc => v.extractLsb' 0 1 ++ v.extractLsb' 1 7
  | .rl => v.extractLsb' 0 7 ++ BitVec.ofBool c
  | .rr => BitVec.ofBool c ++ v.extractLsb' 1 7
  | .sla => v.extractLsb' 0 7 ++ 0#1
  | .sra => v.extractLsb' 7 1 ++ v.extractLsb' 1 7
  | .swap => v.extractLsb' 0 4 ++ v.extractLsb' 4 4
  | .srl => 0#1 ++ v.extractLsb' 1 7

/-- The bit each operation shifts out; SWAP shifts out none. -/
def shiftedOut (o : ShiftOp) (v : Byte) : Bool :=
  match o with
  | .rlc | .rl | .sla => v.getLsbD 7
  | .rrc | .rr | .sra | .srl => v.getLsbD 0
  | .swap => false

/-- R235 is R233 with the sign bit coming in. -/
theorem sra8_eq (v : Byte) : sra8 v = (v.extractLsb' 7 1 ++ v.extractLsb' 1 7, v.getLsbD 0) := by
  have hsign : v &&& (0x80 : Byte) = bitByte (v.getLsbD 7) <<< 7 :=
    (BitVec.and_twoPow v 7).trans (by cases v.getLsbD 7 <;> rfl)
  rw [extractLsb'_one, ← rr8_eq, sra8, hsign, rr8]

/-- Each nibble takes the other's place (R237). -/
theorem swap8_eq (v : Byte) : swap8 v = (v.extractLsb' 0 4 ++ v.extractLsb' 4 4, false) := by
  have hlow : (v &&& 0x0F) <<< 4 = v.extractLsb' 0 4 ++ 0#4 := by
    rw [BitVec.shiftLeft_eq_concat_of_lt (by decide), BitVec.extractLsb'_and]
    exact congrArg (· ++ 0#4) BitVec.and_allOnes
  have hhigh : v >>> 4 = 0#4 ++ v.extractLsb' 4 4 := BitVec.ushiftRight_eq_extractLsb'_of_lt (by decide)
  rw [swap8, hlow, hhigh, BitVec.or_append, BitVec.or_zero, BitVec.zero_or]

theorem shiftResult_eq (o : ShiftOp) (v : Byte) (c : Bool) :
    shiftResult o v c = (shiftedByte o v c, shiftedOut o v) := by
  cases o with
  | rlc => exact rlc8_eq v
  | rrc => exact rrc8_eq v
  | rl => exact rl8_eq v c
  | rr => exact rr8_eq v c
  | sla => exact congrArg (·, v.getLsbD 7) (shiftLeft_one_eq v)
  | sra => exact sra8_eq v
  | swap => exact swap8_eq v
  | srl => exact congrArg (·, v.getLsbD 0) (ushiftRight_one_eq v)

/-! ## Rotates, shifts and SWAP -/

/-- One write of the operand, whichever it is, then the flags, wherever the write went (R250 to R265). -/
theorem cbShift_eq (op2 : Byte) (f : ShiftOp) (o : Opnd8) (s : State) :
    cbShift op2 f o s = { s.writeOpnd o (shiftedByte f (s.readOpnd o) s.flagC) with
      regs.f := flagByte (shiftedByte f (s.readOpnd o) s.flagC = 0) false false (shiftedOut f (s.readOpnd o))
      disp.ticks := s.disp.ticks + (s.costBase 0xCB + s.costCB op2) } := by
  simp only [cbShift, shiftResult_eq]
  rw [spendExtended_of_params ((flagLine_params ..).trans (writeOpnd_params ..)), flagLine_eq _ _ _ _ _ rfl,
    State.spend, writeOpnd_disp]
  rfl

/-- Settles O53: the shared operation on a register, its result bit by bit. -/
theorem shiftRegister : Obligations.ShiftRegister := fun o r s =>
  ⟨encode_shiftR o r, fun h => extendedCost_reg h 0b00#2 o.code r,
   (exec_shiftR o r s).trans (congrArg Host.Outcome.next (cbShift_eq _ o (.reg r) s))⟩

/-- Settles O54: the shared operation on the byte at HL. -/
theorem shiftMemory : Obligations.ShiftMemory := fun o s =>
  ⟨encode_shiftM o, fun h => extendedCost_mHL h 0b00#2 o.code,
   (exec_shiftM o s).trans (congrArg Host.Outcome.next (cbShift_eq _ o .mHL s))⟩

/-! ## BIT, RES and SET -/

theorem one_shiftLeft_eq (n : Nat) : (1 : Byte) <<< n = BitVec.ofNat 8 (2 ^ n) :=
  BitVec.eq_of_toNat_eq (BitVec.toNat_twoPow 8 n)

theorem cbBit_eq (op2 : Byte) (b : BitNo) (o : Opnd8) (s : State) : cbBit op2 b o s = { s with
    regs.f := flagByte (!(s.readOpnd o).getLsbD b.code.toNat) false true s.flagC
    disp.ticks := s.disp.ticks + (s.costBase 0xCB + s.costCB op2) } := by
  rw [cbBit, flagLine_eq _ _ _ _ _ rfl, flagC_eq]; rfl

theorem cbRes_eq (op2 : Byte) (b : BitNo) (o : Opnd8) (s : State) : cbRes op2 b o s =
    (s.writeOpnd o (s.readOpnd o &&& ~~~BitVec.ofNat 8 (2 ^ b.code.toNat))).spend (s.costBase 0xCB + s.costCB op2) := by
  rw [cbRes, spendExtended_of_params (writeOpnd_params ..), clearBit8, one_shiftLeft_eq, bitIndex]

theorem cbSet_eq (op2 : Byte) (b : BitNo) (o : Opnd8) (s : State) : cbSet op2 b o s =
    (s.writeOpnd o (s.readOpnd o ||| BitVec.ofNat 8 (2 ^ b.code.toNat))).spend (s.costBase 0xCB + s.costCB op2) := by
  rw [cbSet, spendExtended_of_params (writeOpnd_params ..), setBit8, one_shiftLeft_eq, bitIndex]

/-- Settles O55: BIT is one write of F; RES and SET are one write of their operand, with the bit cleared or set. -/
theorem bitResSet : Obligations.BitResSet := fun b r s =>
  ⟨encode_bitR b r, encode_bitM b, encode_resR b r, encode_resM b, encode_setR b r, encode_setM b,
   fun h => ⟨extendedCost_reg h 0b01#2 b.code r, extendedCost_mHL h 0b01#2 b.code,
     extendedCost_reg h 0b10#2 b.code r, extendedCost_mHL h 0b10#2 b.code,
     extendedCost_reg h 0b11#2 b.code r, extendedCost_mHL h 0b11#2 b.code⟩,
   by rw [exec_bitR, cbBit_eq]; rfl, by rw [exec_bitM, cbBit_eq]; rfl,
   by rw [exec_resR, cbRes_eq]; rfl, by rw [exec_resM, cbRes_eq]; rfl,
   by rw [exec_setR, cbSet_eq]; rfl, by rw [exec_setM, cbSet_eq]; rfl⟩

end Sys2Proof.Machine

/-! PROOFS. The statements of 47_control.md: jumps, calls, restarts and returns, each proved once for the transfer and its
conditional form. -/

namespace Sys2Proof.Machine

/-! ## Encodings and costs of the rows with a condition or a vector in the opcode -/

theorem encode_jpC (c : Cond) (a : Word) :
    encode (.jpC c a) = [0b110#3 ++ c.code ++ 0b010#3, a.extractLsb' 0 8, a.extractLsb' 8 8] := by cases c <;> rfl
theorem encode_jrC (c : Cond) (e : Byte) : encode (.jrC c e) = [0b001#3 ++ c.code ++ 0b000#3, e] := by cases c <;> rfl
theorem encode_callC (c : Cond) (a : Word) :
    encode (.callC c a) = [0b110#3 ++ c.code ++ 0b100#3, a.extractLsb' 0 8, a.extractLsb' 8 8] := by cases c <;> rfl
theorem encode_retC (c : Cond) : encode (.retC c) = [0b110#3 ++ c.code ++ 0b000#3] := by cases c <;> rfl
theorem encode_rst (y : BitNo) : encode (.rst y) = [0b11#2 ++ y.code ++ 0b111#3] := by cases y <;> rfl

section
variable {s : State} (h : s.params = defaultParams)
include h

theorem costBase_jpC (c : Cond) : s.costBase (0b110#3 ++ c.code ++ 0b010#3) = 12 := by
  rw [costBase_default h]; cases c <;> rfl
theorem costBase_jrC (c : Cond) : s.costBase (0b001#3 ++ c.code ++ 0b000#3) = 8 := by
  rw [costBase_default h]; cases c <;> rfl
theorem costBase_callC (c : Cond) : s.costBase (0b110#3 ++ c.code ++ 0b100#3) = 12 := by
  rw [costBase_default h]; cases c <;> rfl
theorem costBase_retC (c : Cond) : s.costBase (0b110#3 ++ c.code ++ 0b000#3) = 8 := by
  rw [costBase_default h]; cases c <;> rfl
theorem costBase_rst (y : BitNo) : s.costBase (0b11#2 ++ y.code ++ 0b111#3) = 16 := by
  rw [costBase_default h]; cases y <;> rfl

theorem taken_default : s.params.taken = { jr := 4, jp := 4, call := 12, ret := 12 } := by
  rw [h]; rfl

end

/-! ## Conditional transfers -/

/-- The condition as a bit of F (R280). -/
theorem cond_eq (s : State) (c : Cond) : s.cond c = match c with
    | .NZ => !s.regs.f.getLsbD 7
    | .Z => s.regs.f.getLsbD 7
    | .NC => !s.regs.f.getLsbD 4
    | .C => s.regs.f.getLsbD 4 := by
  cases c <;> simp only [State.cond, flagZ_eq, flagC_eq]

/-- A conditional row is its transfer with the extra ticks, or the base cost alone (R129, R280). -/
theorem next_whenCond (c : Cond) (extra : Nat) (taken : State → State) (op : Byte) (s : State) :
    (Host.Outcome.next (whenCond c extra taken op s) : Result) =
      if s.cond c then .next ((taken s).spend extra) else .next (s.spend (s.costBase op)) :=
  apply_ite Host.Outcome.next ..

theorem spend_spend (s : State) (m n : Nat) : (s.spend m).spend n = s.spend (m + n) := by
  simp only [State.spend, Nat.add_assoc]

/-! ## Jumps -/

/-- The displacement is signed and counts from the next instruction (R284). -/
theorem relTarget_eq (e : Byte) (s : State) : relTarget e s = BitVec.ofInt 16 ((s.regs.pc.toNat : Int) + e.toInt) := by
  apply BitVec.eq_of_toInt_eq
  rw [relTarget, sext16, BitVec.toInt_add, BitVec.toInt_signExtend_of_le (by decide), BitVec.toInt_ofInt,
    BitVec.toInt_eq_toNat_bmod, Int.bmod_add_bmod]

theorem jumpTo_eq (op : Byte) (a : Word) (s : State) :
    jumpTo op a s = (s.setPC a).spend (s.costBase op) := rfl

/-- Settles O56: a jump is one write of PC; a conditional one is it or nothing. -/
theorem jumps : Obligations.Jumps := by
  intro s c a e
  refine ⟨rfl, rfl, congrArg (fun pc => Host.Outcome.next (jumpTo 0x18 pc s)) (relTarget_eq e s), ?_, ?_, rfl, rfl, rfl,
    encode_jpC c a, encode_jrC c e, fun h => ?_⟩
  · rw [exec_jpC, jumpCond, next_whenCond, cond_eq, jumpTo_eq, spend_spend]; rfl
  · rw [exec_jrC, jumpRelCond, next_whenCond, cond_eq, jumpTo_eq, spend_spend, relTarget_eq]; rfl
  · rw [costBase_jpC h, costBase_jrC h, taken_default h]
    simp only [costBase_default h]
    decide

/-! ## Calls -/

theorem callTo_eq (op : Byte) (a : Word) (s : State) :
    callTo op a s = ((s.push s.regs.pc).setPC a).spend (s.costBase op) :=
  spendBase_of_params (t := (s.push s.regs.pc).setPC a) (push_params s s.regs.pc) op

/-- A push, a jump and a charge as one record: the low byte is pushed at the lower address (R81). -/
theorem push_setPC_spend (s : State) (v a : Word) (n : Nat) : ((s.push v).setPC a).spend n =
    { ((s.setSP (s.regs.sp - 2)).writeByte (s.regs.sp - 2) (v.extractLsb' 0 8)).writeByte (s.regs.sp - 1)
        (v.extractLsb' 8 8) with
      regs.pc := a, disp.ticks := s.disp.ticks + n } := by
  simp only [push_writes, State.spend, State.setPC, writeByte_disp]
  rfl

/-- Settles O57: a call is a push of PC and a write of PC; a conditional one is it or nothing. -/
theorem calls : Obligations.Calls := by
  intro s c a y
  refine ⟨?_, ?_, ?_, rfl, encode_callC c a, encode_rst y, fun h => ?_⟩
  · exact congrArg Host.Outcome.next ((callTo_eq ..).trans (push_setPC_spend ..))
  · rw [exec_callC, callCond, next_whenCond, callTo_eq, spend_spend, push_setPC_spend]; rfl
  · rw [exec_rst, callTo_eq, push_setPC_spend]; rfl
  · rw [costBase_callC h, costBase_rst h, taken_default h, costBase_default h]
    decide

/-! ## Returns -/

theorem ret_eq (op : Byte) (s : State) : ret op s = (s.dropTop.setPC s.top).spend (s.costBase op) := rfl

/-- Settles O58: a return is a pop into PC; a conditional one is it or nothing. -/
theorem returns : Obligations.Returns := by
  intro s c
  refine ⟨rfl, ?_, rfl, encode_retC c, fun h => ?_⟩
  · rw [exec_retC, retCond, next_whenCond, ret_eq, spend_spend]; rfl
  · rw [costBase_retC h, taken_default h, costBase_default h]
    decide

end Sys2Proof.Machine

/-! PROOFS. The statements of 48_system.md: NOP, HALT, STOP, DI and EI. -/

namespace Sys2Proof.Machine

/-- HALT under IME waits (R301). -/
theorem halt_of_ime {s : State} (h : s.irq.ime = true) (op : Byte) :
    halt op s = { s with disp.halted := true, disp.ticks := s.disp.ticks + s.costBase op } := by
  rw [halt, if_pos h]; rfl

/-- HALT without IME only skips HaltSkip bytes (R301; D28, log 26). -/
theorem halt_of_not_ime {s : State} (h : s.irq.ime = false) (op : Byte) : halt op s = { s with
    regs.pc := s.regs.pc + (if s.params.haltSkip then 1 else 0), disp.ticks := s.disp.ticks + s.costBase op } := by
  rw [halt, h, if_neg Bool.false_ne_true]; rfl

/-- Settles O59: each row writes its own field and the cost; HALT by IME. -/
theorem systemInstructions : Obligations.SystemInstructions := by
  intro s n
  refine ⟨rfl, fun h => congrArg Host.Outcome.next (halt_of_ime h 0x76),
    fun h => congrArg Host.Outcome.next (halt_of_not_ime h 0x76), rfl, rfl, rfl, rfl, rfl, rfl, rfl, rfl, fun h => ?_⟩
  simp only [costBase_default h, h]
  decide

end Sys2Proof.Machine

/-! PROOFS. The statements of 60_exceptions.md: the video unit, the pixels of a rendered line, the interrupt controller,
the entry and the return, and who raises an interrupt. -/

namespace Sys2Proof.Machine

/-! ## The video unit -/

/-- Settles O22: the mode picks the transition, and the line the branch of its next. -/
theorem modeTransitions : Obligations.ModeTransitions := by
  intro s
  refine ⟨fun hm => ?_, fun hm hly => ?_, fun hm hly => ?_, fun hm hly => ?_, fun hm hly => ?_⟩
  · simp only [State.transition, hm]
  · simp only [State.transition, hm, State.nextLine, if_neg hly]
  · simp only [State.transition, hm, State.nextLine, if_pos hly]
    split <;> rw [hly]
  · have hnext : ¬s.ppu.ly.toNat + 1 > 153 := by omega
    simp only [State.transition, hm, State.nextBlankLine, if_neg hnext]
  · have hlast : s.ppu.ly.toNat + 1 > 153 := by omega
    simp only [State.transition, hm, State.nextBlankLine, if_pos hlast]

theorem consumeTicks_of_ticks {s : State} {d : Nat} (h : s.disp.ticks = s.ppu.seen + d) :
    s.consumeTicks = { s with ppu.seen := s.disp.ticks, ppu.acc := s.ppu.acc + d } := by
  rw [State.consumeTicks, Nat.sub_eq_of_eq_add' h]

/-- Settles O23: the two branches of the video-unit step, on the state with its ticks taken. -/
theorem videoStep : Obligations.VideoStep := by
  intro s d hd limit
  have hlimit : limit = threshold s.ppu.mode := by
    cases hm : s.ppu.mode <;> simp only [limit, hm] <;> rfl
  have hconsume := consumeTicks_of_ticks hd
  have hacc : s.consumeTicks.ppu.acc = s.ppu.acc + d := by rw [hconsume]
  refine ⟨fun hlt => ?_, fun hle => ?_, fun hm => ?_⟩
  · rcases ppuStep_cases s with ⟨-, h⟩ | ⟨hle, -⟩
    · rw [h, hconsume]
    · omega
  · rcases ppuStep_cases s with ⟨hlt, -⟩ | ⟨-, h⟩
    · omega
    · rw [h, hconsume, hlimit]
  · simp only [State.transition, hm]
    rfl

/-! ## The pixels of a rendered line -/

/-- Of draws that each either overwrite what `look` sees or leave it, the last that overwrites decides. -/
theorem foldl_range_last {β γ : Type} {P : β → Prop} {draw : β → Nat → β} {look : β → γ} {hit : Nat → Prop}
    {val : Nat → γ} (hkeep : ∀ b i, P b → P (draw b i)) (hhit : ∀ b i, P b → hit i → look (draw b i) = val i)
    (hmiss : ∀ b i, P b → ¬hit i → look (draw b i) = look b) {b : β} (hb : P b) (n : Nat) :
    (∀ i, i < n → hit i → (∀ j, i < j → j < n → ¬hit j) → look ((List.range n).foldl draw b) = val i) ∧
    ((∀ i, i < n → ¬hit i) → look ((List.range n).foldl draw b) = look b) := by
  have hP (n : Nat) : P ((List.range n).foldl draw b) := List.foldlRecOn _ draw hb fun b h i _ => hkeep b i h
  induction n with
  | zero => exact ⟨nofun, fun _ => rfl⟩
  | succ n ih =>
    obtain ⟨ihhit, ihmiss⟩ := ih
    rw [List.range_succ, List.foldl_append, List.foldl_cons, List.foldl_nil]
    refine ⟨fun i hi hhit_i hlast => ?_, fun hnone => ?_⟩
    · rcases Nat.lt_succ_iff_lt_or_eq.1 hi with hlt | rfl
      · rw [hmiss _ n (hP n) (hlast n hlt (Nat.lt_succ_self n))]
        exact ihhit i hlt hhit_i fun j hij hjn => hlast j hij (Nat.lt_succ_of_lt hjn)
      · exact hhit _ i (hP i) hhit_i
    · rw [hmiss _ n (hP n) (hnone n (Nat.lt_succ_self n))]
      exact ihmiss fun i hi => hnone i (Nat.lt_succ_of_lt hi)

/-- The colour index sprite entry `i` has at column `x` of line LY, where it covers it (R332). -/
def State.spriteIndex (s : State) (i x : Nat) : BitVec 2 :=
  let p := s.sprite i
  let col := x + 8 - p.x.toNat
  let row := s.ppu.ly.toNat + 16 - p.y.toNat
  s.tileDecode p.tile.toNat (if p.attr.getLsbD 6 then 7 - row else row) (if p.attr.getLsbD 5 then 7 - col else col)

/-- Sprite entry `i` shows at column `x` of line LY: it is on the line and covers the column, its index there is not 0,
and it is in front or over a background index 0 (R332). -/
def State.spriteShows (s : State) (i x : Nat) : Prop :=
  let p := s.sprite i
  p.y.toNat ≤ s.ppu.ly.toNat + 16 ∧ s.ppu.ly.toNat + 16 < p.y.toNat + 8 ∧
  p.x.toNat ≤ x + 8 ∧ x + 8 < p.x.toNat + 8 ∧
  s.spriteIndex i x ≠ 0 ∧ (p.attr.getLsbD 7 = false ∨ s.bgIndex x = 0)

/-- Column `col` of a sprite lies over column `x` of the line and is visible there (R332). -/
def State.columnShows (s : State) (p : Sprite) (x col : Nat) : Prop :=
  x + 8 = p.x.toNat + col ∧ s.tileCache p.tile.toNat (p.tileRow s.ppu.ly) (p.tileCol col) ≠ 0 ∧
    (p.attr.getLsbD 7 = false ∨ s.bgIndex x = 0)

theorem bgLine_getD (s : State) {x : Nat} (hx : x < 160) (c : BitVec 2) : s.bgLine.getD x c = s.bgIndex x := by
  rw [State.bgLine, List.getD_eq_getElem?_getD, List.getElem?_map, List.getElem?_range hx]
  rfl

theorem getD_set {α : Type} {l : List α} {n : Nat} (hn : n < l.length) (x : Nat) (v d : α) :
    (l.set n v).getD x d = if x = n then v else l.getD x d := by
  rw [List.getD_eq_getElem?_getD, List.getD_eq_getElem?_getD, List.getElem?_set]
  by_cases h : n = x
  · subst h
    rw [if_pos rfl, if_pos hn, if_pos rfl]
    rfl
  · rw [if_neg h, if_neg (Ne.symm h)]

/-- One sprite column changes the pixel it is drawn over, if it is visible, and no other (R332). -/
theorem drawColumn_pixel (s : State) (p : Sprite) {line : List RGB} (hl : line.length = 160) {x : Nat} (hx : x < 160)
    (col : Nat) (d : RGB) :
    (s.columnShows p x col → (s.drawColumn s.bgLine p line col).getD x d =
      s.colour (s.spritePalette p) (s.tileCache p.tile.toNat (p.tileRow s.ppu.ly) (p.tileCol col))) ∧
    (¬s.columnShows p x col → (s.drawColumn s.bgLine p line col).getD x d = line.getD x d) := by
  have hcol : x + 8 = p.x.toNat + col ↔ (x : Int) = p.sx + col := by
    rw [Sprite.sx]; omega
  simp only [State.drawColumn, State.columnShows, hcol]
  generalize p.sx + (col : Int) = z
  by_cases hz : 0 ≤ z ∧ z < 160
  · obtain ⟨n, rfl⟩ := Int.eq_ofNat_of_zero_le hz.1
    have hn : n < 160 := by omega
    rw [if_pos hz, Int.toNat_natCast, bgLine_getD s hn]
    split_ifs with hvis
    · rw [getD_set (hl ▸ hn)]
      refine ⟨fun h => if_pos (by exact_mod_cast h.1), fun h => if_neg fun hxn => h ⟨congrArg Nat.cast hxn, ?_⟩⟩
      exact hxn ▸ hvis
    · refine ⟨fun ⟨hxn, h⟩ => absurd ?_ hvis, fun _ => rfl⟩
      obtain rfl : x = n := by exact_mod_cast hxn
      exact h
  · rw [if_neg hz]
    exact ⟨fun ⟨hxz, _⟩ => absurd ⟨by omega, by omega⟩ hz, fun _ => rfl⟩

theorem onLine_iff (p : Sprite) (ly : Byte) :
    p.onLine ly = true ↔ p.y.toNat ≤ ly.toNat + 16 ∧ ly.toNat + 16 < p.y.toNat + 8 := by
  rw [Sprite.onLine, Bool.and_eq_true, decide_eq_true_iff, decide_eq_true_iff, Sprite.sy]
  omega

theorem tileRow_eq (p : Sprite) (ly : Byte) : p.tileRow ly =
    if p.attr.getLsbD 6 then 7 - (ly.toNat + 16 - p.y.toNat) else ly.toNat + 16 - p.y.toNat := by
  have hrow : ((ly.toNat : Int) - p.sy).toNat = ly.toNat + 16 - p.y.toNat := by
    rw [Sprite.sy]; omega
  rw [Sprite.tileRow, hrow]

/-- The index drawn over column `x` is the sprite's index there. -/
theorem columnIndex_eq (s : State) {i x col : Nat} (h : x + 8 = (s.sprite i).x.toNat + col) :
    s.tileCache (s.sprite i).tile.toNat ((s.sprite i).tileRow s.ppu.ly) ((s.sprite i).tileCol col) =
      s.spriteIndex i x := by
  have hcol : col = x + 8 - (s.sprite i).x.toNat := by omega
  rw [tileRow_eq, hcol]; rfl

/-- A sprite shows at a column exactly where it is on the line and one of its eight columns shows there. -/
theorem spriteShows_iff (s : State) (i x : Nat) : s.spriteShows i x ↔
    (s.sprite i).onLine s.ppu.ly = true ∧ ∃ col, col < 8 ∧ s.columnShows (s.sprite i) x col := by
  rw [onLine_iff]
  constructor
  · rintro ⟨hlo, hhi, hleft, hright, hvis⟩
    have hcol : x + 8 = (s.sprite i).x.toNat + (x + 8 - (s.sprite i).x.toNat) := by omega
    exact ⟨⟨hlo, hhi⟩, _, by omega, hcol, (columnIndex_eq s hcol).symm ▸ hvis⟩
  · rintro ⟨⟨hlo, hhi⟩, col, hlt, hcol, hvis⟩
    exact ⟨hlo, hhi, by omega, by omega, columnIndex_eq s hcol ▸ hvis⟩

/-- One sprite entry changes the pixel of the columns where it shows, and no other (R332). -/
theorem drawSprite_pixel (s : State) {line : List RGB} (hl : line.length = 160) {x : Nat} (hx : x < 160) (i : Nat)
    (d : RGB) :
    (s.spriteShows i x → (s.drawSprite s.bgLine line i).getD x d =
      s.colour (s.spritePalette (s.sprite i)) (s.spriteIndex i x)) ∧
    (¬s.spriteShows i x → (s.drawSprite s.bgLine line i).getD x d = line.getD x d) := by
  rw [spriteShows_iff, State.drawSprite]
  split_ifs with hon
  · obtain ⟨hhit, hmiss⟩ := foldl_range_last (P := fun l => l.length = 160) (draw := s.drawColumn s.bgLine (s.sprite i))
      (look := fun l => l.getD x d) (fun l col h => (drawColumn_length s s.bgLine (s.sprite i) l col).trans h)
      (fun l col h => (drawColumn_pixel s (s.sprite i) h hx col d).1)
      (fun l col h => (drawColumn_pixel s (s.sprite i) h hx col d).2) hl 8
    refine ⟨fun ⟨_, col, hlt, hcol⟩ => ?_, fun h => hmiss fun col hlt hcol => h ⟨hon, col, hlt, hcol⟩⟩
    have ⟨hat, _⟩ := hcol
    have hlast (j : Nat) (hj : col < j) (_ : j < 8) : ¬s.columnShows (s.sprite i) x j := fun ⟨hat', _⟩ => by omega
    exact (hhit col hlt hcol hlast).trans (congrArg _ (columnIndex_eq s hat))
  · exact ⟨fun h => absurd h.1 hon, fun _ => rfl⟩

/-- One pixel of the rendered line: the highest entry that shows there, else the background (R330, R332). -/
theorem renderedLine_pixel (s : State) {x : Nat} (hx : x < 160) (d : RGB) :
    (∀ i, i < 40 → s.spriteShows i x → (∀ j, i < j → j < 40 → ¬s.spriteShows j x) →
      s.renderedLine.getD x d = s.colour (s.spritePalette (s.sprite i)) (s.spriteIndex i x)) ∧
    ((∀ i, i < 40 → ¬s.spriteShows i x) → s.renderedLine.getD x d = s.colour s.ppu.bgp (s.bgIndex x)) := by
  have hback : (s.bgLine.map (s.colour s.ppu.bgp)).getD x d = s.colour s.ppu.bgp (s.bgIndex x) := by
    rw [State.bgLine, List.map_map, List.getD_eq_getElem?_getD, List.getElem?_map, List.getElem?_range hx]
    rfl
  have hlen : (s.bgLine.map (s.colour s.ppu.bgp)).length = 160 := by
    rw [List.length_map, State.bgLine, List.length_map, List.length_range]
  rw [← hback, State.renderedLine, State.drawSprites]
  obtain ⟨hhit, hmiss⟩ := foldl_range_last (P := fun l => l.length = 160) (draw := s.drawSprite s.bgLine)
    (look := fun l => l.getD x d)
    (fun l i h => (drawSprite_length s s.bgLine l i).trans h)
    (fun l i h => (drawSprite_pixel s h hx i d).1) (fun l i h => (drawSprite_pixel s h hx i d).2) hlen 40
  exact ⟨hhit, hmiss⟩

/-! ## The background through the bus -/

theorem readByte_vram (s : State) (k : Access) {o : Nat} (h : o < 0x2000) :
    s.readByte k (BitVec.ofNat 16 (0x8000 + o)) = s.vram o := by
  have hn : (BitVec.ofNat 16 (0x8000 + o)).toNat = 0x8000 + o := by rw [BitVec.toNat_ofNat]; omega
  have hr : regionOf (BitVec.ofNat 16 (0x8000 + o)) = .vram := regionOf_vram (by omega)
  rw [readByte_storage k (by simp [hr]), State.vram, storageKey, hr, hn]

/-- The tile a map byte names, as its signed or unsigned index says (R331). -/
theorem bgTile_eq (lcdc idx : Byte) : bgTile lcdc idx =
    if lcdc.getLsbD 4 = false ∧ idx.toNat < 128 then idx.toNat + 256 else idx.toNat := by
  rw [bgTile]
  cases lcdc.getLsbD 4 <;> simp

theorem bgTile_lt (lcdc idx : Byte) : bgTile lcdc idx < 384 := by
  have := idx.isLt
  rw [bgTile_eq]
  split <;> omega

theorem mapBase_eq (lcdc : Byte) : (if lcdc.getLsbD 3 then 0x9C00 else 0x9800) = 0x8000 + mapBase lcdc := by
  rw [mapBase]; split <;> rfl

theorem mapBase_le (lcdc : Byte) : mapBase lcdc ≤ 0x1C00 := by
  rw [mapBase]; split <;> omega

/-- The active map's byte, read through the bus (R46, R330). -/
theorem readByte_map (s : State) (k : Access) {y px : Nat} (hy : y < 256) (hpx : px < 256) :
    s.readByte k (BitVec.ofNat 16 ((if s.ppu.lcdc.getLsbD 3 then 0x9C00 else 0x9800) + y / 8 * 32 + px / 8)) =
      s.vram (mapBase s.ppu.lcdc + y / 8 * 32 + px / 8) := by
  have hle := mapBase_le s.ppu.lcdc
  rw [mapBase_eq, Nat.add_assoc 0x8000, Nat.add_assoc 0x8000, readByte_vram s k (by omega)]

/-- A row of a decoded tile from its two planes, read through the bus (R67). -/
theorem planePixel_readByte (s : State) (k : Access) {t y : Nat} (ht : t < 384) (hy : y < 8) (x : Nat) :
    planePixel (s.readByte k (BitVec.ofNat 16 (0x8000 + 16 * t + 2 * y)))
      (s.readByte k (BitVec.ofNat 16 (0x8000 + 16 * t + 2 * y + 1))) x = s.tileCache t y x := by
  rw [Nat.add_assoc 0x8000, Nat.add_assoc 0x8000, readByte_vram s k (by omega), readByte_vram s k (by omega)]
  rfl

/-- Settles O24: a pixel of the line by `renderedLine_pixel`, the background index by reads of VRAM, the other rows by
the write of one. -/
theorem renderedPixel : Obligations.RenderedPixel := by
  intro s hw
  have hrow (y : Nat) : s.renderLine.ppu.frame.row y =
      if y = s.ppu.ly.toNat then s.renderedLine else s.ppu.frame.row y :=
    Frame.row_setRow hw _ _ _
  have hpixel (x : Nat) : s.renderLine.ppu.frame.pixel s.ppu.ly.toNat x = s.renderedLine.getD x ⟨0, 0, 0⟩ := by
    rw [Frame.pixel, hrow, if_pos rfl]
  refine ⟨fun x hx => ?_, fun y hy => by rw [hrow, if_neg hy]⟩
  obtain ⟨hsprite, hback⟩ := renderedLine_pixel s hx ⟨0, 0, 0⟩
  refine ⟨fun i hi hshow hlast => (hpixel x).trans (hsprite i hi hshow hlast),
    fun hnone => (hpixel x).trans (hback hnone), ?_⟩
  rintro k y px n hy hpx rfl
  have hy256 : y < 256 := hy ▸ Nat.mod_lt _ (by decide)
  have hpx256 : px < 256 := hpx ▸ Nat.mod_lt _ (by decide)
  dsimp only
  rw [readByte_map s k hy256 hpx256, ← bgTile_eq,
    planePixel_readByte s k (bgTile_lt _ _) (Nat.mod_lt y (by decide)), hy, hpx]
  rfl

/-! ## Interrupts -/

/-- An interrupt entry before its push: the source's bit and IME are cleared, a wait ends, and the draw number steps on
(R315, log 3). -/
def State.acknowledge (s : State) (i : IntSource) : State := { s with
  irq.ifr := s.irq.ifr &&& ~~~((1 : BitVec 5) <<< i.bit), irq.ime := false, disp.halted := false,
  disp.stopped := false, host.draws := s.host.draws + 1 }

theorem takeInterrupt_eq (s : State) (i : IntSource) :
    s.takeInterrupt i = (((s.acknowledge i).push s.regs.pc).setPC i.vector).spend dispatchCost := rfl

/-- The priority order is that of the bits (R311). -/
theorem intSource_all_split (i : IntSource) :
    IntSource.all = IntSource.all.filter (fun j => j.bit < i.bit) ++
      i :: IntSource.all.filter (fun j => i.bit < j.bit) := by cases i <;> rfl

theorem chosenSource_of_lowest {s : State} {i : IntSource} (hi : s.enabledPending.getLsbD i.bit = true)
    (hlow : ∀ j, j < i.bit → s.enabledPending.getLsbD j = false) : s.chosenSource = some i := by
  refine List.find?_eq_some_iff_append.2 ⟨hi, _, _, intSource_all_split i, fun j hj => ?_⟩
  have hlt : j.bit < i.bit := of_decide_eq_true (List.mem_filter.1 hj).2
  rw [hlow _ hlt]; rfl

theorem interruptStep_of_chosen {s : State} {i : IntSource} (hime : s.irq.ime = true) (hp : s.enabledPending ≠ 0)
    (hi : s.chosenSource = some i) : s.interruptStep = s.takeInterrupt i := by
  have hie : s.irq.ie ≠ 0 := fun h => hp (by rw [State.enabledPending, h]; exact BitVec.zero_and)
  have hifr : s.irq.ifr ≠ 0 := fun h => hp (by rw [State.enabledPending, h]; exact BitVec.and_zero)
  have hgate : (!s.irq.ime || s.irq.ie == 0 || s.irq.ifr == 0) = false := by
    rw [hime, beq_eq_false_iff_ne.2 hie, beq_eq_false_iff_ne.2 hifr]; rfl
  rw [State.interruptStep, hgate, if_neg Bool.false_ne_true, hi]

/-- Settles O26: the search in priority order finds the lowest common bit. -/
theorem interruptPriority : Obligations.InterruptPriority := by
  intro s
  refine ⟨fun hoff => ?_, fun hdisj => ?_, fun hime i hi hlow => ?_⟩
  · exact if_pos (by rcases hoff with h | h | h <;> simp [h])
  · exact interruptStep_of_not_pending (by simp [State.pending, State.enabledPending, hdisj])
  · have hp : s.enabledPending ≠ 0 := fun h => by
      rw [State.enabledPending] at h
      simp [h] at hi
    exact interruptStep_of_chosen hime hp (chosenSource_of_lowest hi hlow)

theorem intSource_vector_eq (i : IntSource) : i.vector = BitVec.ofNat 16 (0x40 + 8 * i.bit) := by cases i <;> rfl

/-- Settles O27: after `acknowledge` the entry is a push of PC and a jump to the vector. -/
theorem interruptEntry : Obligations.InterruptEntry := by
  intro s i
  dsimp only
  rw [takeInterrupt_eq, push_setPC_spend, intSource_vector_eq]
  rfl

/-- The word an interrupt entry leaves on a RAM stack is the PC it interrupts (R315). -/
theorem takeInterrupt_top {s : State} (hw : s.bus.mem.wf) (hlo : isRam (s.regs.sp - 2) = true)
    (hhi : isRam (s.regs.sp - 2 + 1) = true) (i : IntSource) : (s.takeInterrupt i).top = s.regs.pc :=
  push_top (s := s.acknowledge i) hw hlo hhi s.regs.pc

theorem returnFromInterrupt_regs (s : State) :
    s.returnFromInterrupt.regs = { s.regs with pc := s.top, sp := s.regs.sp + 2 } := rfl

/-- Settles O28: RETI pops PC, and after an entry the word on top of a RAM stack is the PC that the entry pushed. -/
theorem interruptReturn : Obligations.InterruptReturn := by
  refine ⟨fun s => ⟨rfl, fun h => by rw [costBase_default h]; rfl, rfl⟩, fun s i hw hlo hhi => ⟨_, rfl, ?_, rfl⟩⟩
  have hnext : s.regs.sp - 1 = s.regs.sp - 2 + 1 := by bv_omega
  show (s.takeInterrupt i).returnFromInterrupt.regs = s.regs
  rw [returnFromInterrupt_regs, takeInterrupt_regs, takeInterrupt_top hw hlo (hnext ▸ hhi), BitVec.sub_add_cancel]

/-! ## Requests -/

/-- The one bit of IF the video unit can set: bit 0, where it reaches line 144 with IE bit 0 set (R328; C1). -/
theorem ppuStep_ifr (s : State) : s.ppuStep.irq.ifr = s.irq.ifr ∨
    s.ppu.mode = .hBlank ∧ s.ppu.ly = 143 ∧ s.irq.ie.getLsbD 0 = true ∧ s.ppuStep.irq.ifr = s.irq.ifr ||| 1 := by
  rcases ppuStep_cases s with ⟨-, h⟩ | ⟨-, h⟩
  · rw [h]; exact .inl rfl
  · rw [h]
    rcases transition_ifr { s.consumeTicks with
      ppu.acc := s.consumeTicks.ppu.acc - threshold s.ppu.mode } with hifr | ⟨hmode, hly, hie, hifr⟩
    · exact .inl hifr
    · have hline : s.ppu.ly = 143 := BitVec.eq_sub_iff_add_eq.2 hly
      exact .inr ⟨hmode, hline, hie, hifr⟩

/-- The video unit raises none of the sources 1 to 4 (R311, R340). -/
theorem ppuStep_ifr_bit (s : State) {n : Nat} (hn : 1 ≤ n) :
    s.ppuStep.irq.ifr.getLsbD n = s.irq.ifr.getLsbD n := by
  rcases ppuStep_ifr s with h | ⟨-, -, -, h⟩
  · rw [h]
  · have hone : (1 : BitVec 5).getLsbD n = false := by
      rw [BitVec.ofNat_eq_ofNat, BitVec.getLsbD_one, decide_eq_false (Nat.ne_of_gt hn), Bool.and_false]
    rw [h, BitVec.getLsbD_or, hone, Bool.or_false]

/-- A push changes IF only where its slot holds 0xFF0F (R315, R81). -/
theorem push_ifr {s : State} (h : 0xFF0F ∉ stackSlot s) (v : Word) : (s.push v).irq.ifr = s.irq.ifr := by
  obtain ⟨⟨ws, hws, hirq, -⟩, -⟩ := push_storesInPlace s v
  obtain ⟨hifr, -⟩ := storeAll_unitFrame s (l := stackSlot s) ws fun w hw => hws ▸ List.mem_map_of_mem hw
  rw [hirq, hifr h]

/-- An interrupt entry whose push does not reach 0xFF0F sets no bit of IF (R315). -/
theorem takeInterrupt_ifr_bit {s : State} {i : IntSource} {n : Nat} (h : 0xFF0F ∉ stackSlot s)
    (hn : (s.takeInterrupt i).irq.ifr.getLsbD n = true) : s.irq.ifr.getLsbD n = true := by
  have hifr : (s.takeInterrupt i).irq.ifr = (s.acknowledge i).irq.ifr := push_ifr (s := s.acknowledge i) h s.regs.pc
  rw [hifr, State.acknowledge, BitVec.getLsbD_and, Bool.and_eq_true] at hn
  exact hn.1

/-- An instruction that does not store to 0xFF0F leaves IF; a wait that it ends plays no part in its fetch. -/
theorem executeNext_ifr {s r : State}
    (h : ({ s with disp.halted := false, disp.stopped := false } : State).executeNext = .next r)
    (hno : 0xFF0F ∉ storedAddrs s.fetchInstr (s.afterFetch (opLength (s.fetchByte 0)).toNat)) :
    r.irq.ifr = s.irq.ifr := by
  obtain ⟨hifr, -⟩ := (effect_of_exec h).unitFrame
  exact hifr hno

/-- The dispatcher sets a bit of IF only by an instruction that stores to 0xFF0F. -/
theorem dispatcherStep_ifr {s r : State} (hf : s.disp.fault = none) (h : s.dispatcherStep = .next r) :
    r.irq.ifr = s.irq.ifr ∨
    s.runsInstr = true ∧ 0xFF0F ∈ storedAddrs s.fetchInstr (s.afterFetch (opLength (s.fetchByte 0)).toNat) := by
  rcases dispatcherStep_cases s hf with ⟨hrun, hexec⟩ | ⟨-, hidle | hidle⟩
  · exact or_iff_not_imp_right.2 fun hno => executeNext_ifr (hexec.symm.trans h) fun hm => hno ⟨hrun, hm⟩
  all_goals
    obtain rfl := Host.Outcome.next.inj (hidle.symm.trans h)
    exact .inl rfl

/-- The interrupt controller sets a bit of IF only by an entry that pushes over 0xFF0F. -/
theorem interruptStep_ifr_bit {u : State} {n : Nat} (hn : u.interruptStep.irq.ifr.getLsbD n = true) :
    u.irq.ifr.getLsbD n = true ∨ ∃ i, u.irq.ime = true ∧ u.chosenSource = some i ∧
      u.interruptStep = u.takeInterrupt i ∧ 0xFF0F ∈ stackSlot u := by
  rcases interruptStep_cases u with h | ⟨i, hi, hime, h⟩
  · exact .inl (h ▸ hn)
  · by_cases hslot : 0xFF0F ∈ stackSlot u
    · exact .inr ⟨i, hime, hi, h, hslot⟩
    · exact .inl (takeInterrupt_ifr_bit hslot (h ▸ hn))

/-- A core step is a dispatcher step and the rest of the step, unless a fault is recorded (R120, R130). -/
theorem step_of_no_fault {s t : State} (hf : s.disp.fault = none) (h : step s = .next t) :
    ∃ r, s.dispatcherStep = .next r ∧ r.finishStep = t := by
  simp only [step, State.coreStep, hf] at h
  cases hd : s.dispatcherStep <;> simp_all

/-- Settles O25: IF through the dispatcher, the video unit and the interrupt controller, in the order of the step. -/
theorem requestsOnlyFromSoftware : Obligations.RequestsOnlyFromSoftware := by
  refine ⟨fun s t n hs hn ht => ?_, ppuStep_ifr⟩
  cases hf : s.disp.fault with
  | some f =>
    obtain rfl := Host.Outcome.next.inj ((step_of_fault hf).symm.trans hs)
    exact .inl ht
  | none =>
    obtain ⟨r, hr, rfl⟩ := step_of_no_fault hf hs
    have hdisp (hbit : r.irq.ifr.getLsbD n = true) := (dispatcherStep_ifr hf hr).imp_left fun h => h ▸ hbit
    by_cases hrf : r.disp.fault = none
    · rw [finishStep_of_no_fault hrf] at ht ⊢
      rcases interruptStep_ifr_bit ht with hbit | ⟨i, hime, hi, hentry, hslot⟩
      · rw [ppuStep_ifr_bit r hn] at hbit
        exact (hdisp hbit).imp_right .inl
      · exact .inr (.inr ⟨r.ppuStep, i, ⟨⟨r, hr, hrf, rfl⟩, hime, hi, hentry⟩, hslot⟩)
    · rw [State.finishStep, if_pos (Option.isSome_iff_ne_none.2 hrf)] at ht
      exact (hdisp ht).imp_right .inl

end Sys2Proof.Machine
